-- ==== Sys2Proof/Word.lean ====
section
/-! DEFINITION. The word types of the engine: bytes, three-bit cursors, and one bit as a Bool (R5, R8). -/

namespace Sys2Proof

/-- Eight bits, bit 0 the least significant (R8): `current_byte`, `rom_command`, `tx_byte`, one identity byte. -/
abbrev Byte := BitVec 8

/-- Three bits: `bit_count` and `id_index` (R5, decision D3). -/
abbrev Cursor := BitVec 3

/-- The device identity, `id[0]` (CRC) first and `id[7]` (family code) last (R25, R40). -/
abbrev Identity := Vector Byte 8

end Sys2Proof
end

