-- ==== Sys2Proof/Config.lean ====
section
/-! DEFINITION. What is fixed for an engine or comes from outside it: the timing constants (R6), the open parameters (R7), the
inputs of one tick (R30, R190), and the values the spec leaves free. -/

namespace Sys2Proof

namespace Config

/-! ### Timing constants of R6, in ticks of one microsecond. -/

/-- `T_RST_LO`: a low pulse shorter than this is rejected (R6, R107). -/
abbrev tRstLo : Nat := 450
/-- `T_RST_ACC`: a low pulse must be strictly longer than this to be accepted (R6, R108). -/
abbrev tRstAcc : Nat := 470
/-- `T_RST_HI`: a low pulse longer than this is rejected (R6, R107). -/
abbrev tRstHi : Nat := 510
/-- `T_PDLY`: accepted rising edge to the start of the presence pulse (R6, R108). -/
abbrev tPdly : Nat := 30
/-- `T_PPULSE`: length of the presence pulse (R6, R124). -/
abbrev tPpulse : Nat := 70
/-- `T_WSAMPLE`: falling edge to sample in a write slot (R6, R102). -/
abbrev tWsample : Nat := 40
/-- `T_RSLOT`: falling edge to release in a read slot (R6, R103). -/
abbrev tRslot : Nat := 50
/-- `T_WDG`: the watchdog threshold (R6, R85). -/
abbrev tWdg : Nat := 500
/-- `WIN_LO`: a deadline is accepted down to `cmp - 2` (R6, R84). -/
abbrev winLo : Nat := 2
/-- `WIN_HI`: a deadline is accepted up to `cmp + 10` (R6, R84). -/
abbrev winHi : Nat := 10

end Config

/-- Parameter `SIMUL_ORDER` (R7, R212, decision D9): which of the timer part and the edge part of a tick runs first. -/
inductive SimulOrder where
  | timerFirst
  | edgeFirst
  deriving DecidableEq, Repr, Inhabited

/-- The open parameters of R7 that are plain data. DESIGN CHOICE (log 3): State carries them and nothing writes them, so that a
statement about every state is a statement about every choice of them. -/
structure Params where
  /-- `CNT_WIDTH`: width of the counter and of the compare register (R5, R81, decision D4). -/
  cntWidth : Nat
  /-- `RESET_TIMEOUT_CMP`: the wide timeout armed by a falling edge in `Idle` (R89, decision D5). -/
  resetTimeoutCmp : Nat
  /-- `DEADZONE_ACCEPT`: is a pulse of 450 to 470 ticks accepted (R109, decision D6). -/
  deadzoneAccept : Bool
  /-- `DEADLINE_LATENCY`: ticks from the compare match to the handler (R84, decision D8). -/
  deadlineLatency : Nat
  /-- `SIMUL_ORDER` (R212, decision D9). -/
  simulOrder : SimulOrder
  deriving DecidableEq, Repr, Inhabited

/-- The defaults of R7. -/
def Params.default : Params where
  cntWidth := 16
  resetTimeoutCmp := 65535
  deadzoneAccept := false
  deadlineLatency := 0
  simulOrder := .timerFirst

/-- The ranges of R7: `CNT_WIDTH >= 10`; `RESET_TIMEOUT_CMP` nonzero and below `2^CNT_WIDTH` (R89); `DEADLINE_LATENCY` in 0 to 10. -/
abbrev Params.Valid (p : Params) : Prop :=
  10 ≤ p.cntWidth ∧ 0 < p.resetTimeoutCmp ∧ p.resetTimeoutCmp < 2 ^ p.cntWidth ∧ p.deadlineLatency ≤ 10

/-- What the application answers to a callback (R190, R192, R193): the boolean of `on_byte_received` ("I want to transmit next"),
and the last value it gave to `set_tx_byte` during the call, if any. -/
structure AppReply where
  wantTransmit : Bool
  staged : Option Byte
  deriving DecidableEq, Repr, Inhabited

/-- The answer of the smallest application of R190: transmit nothing, stage nothing. -/
def AppReply.silent : AppReply where
  wantTransmit := false
  staged := none

/-- A call of one of the application's three callbacks, with its argument (R190, R191, R192, R194). -/
inductive AppCall where
  | onSelected
  | onByteReceived (byte : Byte)
  | onByteSent
  deriving DecidableEq, Repr, Inhabited

/-- The inputs of one `TICK` (R30): whether the master and every other device leave the line released (R222), the level of
`alarm_condition` (R26), and what the application answers if the engine calls it in this tick (R190; log 7). -/
structure TickInput where
  release : Bool
  alarm : Bool
  reply : AppReply
  deriving DecidableEq, Repr, Inhabited

/-- What can happen to the engine (R9, R30): one microsecond passes, or the power-on reset event `rst` (R230). -/
inductive Event where
  | tick (input : TickInput)
  | rst
  deriving DecidableEq, Repr, Inhabited

/-- FREE VALUE (log 1). The identity bound before the engine starts (R25, R195, decision D14). The spec gives it no value and
requires one to be bound: no value of it can be proved. -/
opaque Config.boundIdentity : Identity

/-- FREE VALUE (log 6). The event of the n-th step when the list of events to come has run out: the environment may do anything. -/
opaque Config.freeEvent : Nat → Event

end Sys2Proof
end

