-- ==== Sys2Proof/Machine/State.lean ====
section
/-! DEFINITION. Everything the spec gives the engine to hold (R10 to R30, R35), and the engine right after power-on reset (R230). -/

namespace Sys2Proof.Machine

/-- Protocol State (R10); decision D10 asks a model for an enumeration. -/
inductive PState where
  /-- "waiting for a reset pulse". -/
  | idle
  /-- "reset pulse validated; presence response delay in progress". -/
  | presenceWait
  /-- "actively driving the presence pulse". -/
  | presencePulse
  /-- "sampling a bit driven onto the bus by the master". -/
  | write
  /-- "driving a bit value the master will sample". -/
  | read
  deriving DecidableEq, Repr, Inhabited

/-- The faults: none. R200: "A model therefore has no fault outcome for any bus input: every `TICK` has a next state". Safe: no
constructor means that no run stops here. -/
inductive Fault where
  deriving DecidableEq, Repr

/-- The refusals. -/
inductive Refusal where
  /-- Raised by no arm of exec: every instruction of the table has its meaning. It would be safe, for it stops the run. -/
  | notModelled (mnemonic : String)
  deriving DecidableEq, Repr

/-- The state of one engine, its ports in the current tick, its parameters and the events still to come. One bit is a Bool, true
for 1, for a high line and for a set flag. -/
@[ext]
structure State where
  /-- Protocol State (R10). -/
  pstate : PState
  /-- `bit_count` (R11). -/
  bitCount : Cursor
  /-- `current_byte` (R12). -/
  currentByte : Byte
  /-- `rom_command` (R14); 0 while none is received. -/
  romCommand : Byte
  /-- `rom_matched` (R15). -/
  romMatched : Bool
  /-- `id_index` (R16). -/
  idIndex : Cursor
  /-- `read_val` (R17). -/
  readVal : Bool
  /-- `tx_byte` (R18). -/
  txByte : Byte
  /-- `cnt`, kept below `2^CNT_WIDTH` (R22, R81). -/
  cnt : Nat
  /-- `cmp` (R23). -/
  cmp : Nat
  /-- `dl_armed` (R24). -/
  dlArmed : Bool
  /-- `rise_en` (R27). -/
  riseEn : Bool
  /-- `line_prev` (R28). -/
  linePrev : Bool
  /-- `drive_low` (R29). -/
  driveLow : Bool
  /-- `id[0..7]` (R25, R40); no rule writes it. -/
  id : Identity
  /-- Port `line_in` in the current tick (R8, R30). -/
  lineIn : Bool
  /-- Port `alarm_condition` in the current tick (R26). -/
  alarmCondition : Bool
  /-- What the application answers to a callback made in the current tick (R190; log 7). -/
  reply : AppReply
  /-- The callback made in the current tick, if any: the event outputs of R30. -/
  call : Option AppCall
  /-- The open parameters (R7; log 3). -/
  params : Params
  /-- The model's own: the compare match of the present arming has happened, and its handler has not started yet (log 4). With
  `DEADLINE_LATENCY` 0 it is false between two ticks (R210). -/
  dlMatched : Bool
  /-- The model's own: the events still to come, oldest first (log 6). -/
  events : List Event
  /-- The model's own: how many steps have been taken; it numbers the free events (log 6). -/
  steps : Nat
  deriving DecidableEq, Repr

/-- The engine right after power-on reset (R230, R35), with the default parameters of R7 and the identity that was bound before
the start (R233). The ports hold no input yet (log 8). -/
def State.reset : State where
  pstate := .idle
  bitCount := 0#3
  currentByte := 0#8
  romCommand := 0#8
  romMatched := false
  idIndex := 0#3
  readVal := false
  txByte := 0#8
  cnt := 0
  cmp := 0
  dlArmed := false
  riseEn := false
  linePrev := true
  driveLow := false
  id := Config.boundIdentity
  lineIn := true
  alarmCondition := false
  reply := AppReply.silent
  call := none
  params := Params.default
  dlMatched := false
  events := []
  steps := 0

/-- How a meaning or a step ends. -/
abbrev Result := Host.Outcome State Fault Refusal

end Sys2Proof.Machine
end

