-- ==== Sys2Proof/Machine/Flags.lean ====
section
/-! DEFINITION. The conditions the engine decides on: there are no arithmetic flags (R32), only comparisons of the counter (R90), the
edge detector (R100) and the cursor's end (R143). -/

namespace Sys2Proof.Machine

/-- `rom_command = 0`: no command has been received yet (R14). -/
def noCommandYet (s : State) : Bool := s.romCommand == 0#8

/-- `LastBit()` (R143). -/
def lastBit (s : State) : Bool := s.idIndex == 0#3 && s.bitCount == 7#3

/-- The counter after one increment, modulo `2^CNT_WIDTH` (R81). -/
def nextCount (s : State) : Nat := (s.cnt + 1) % 2 ^ s.params.cntWidth

/-- The compare match of the present arming has happened once the counter is incremented: in this tick (R83) or in an earlier one
whose handler is still to start (R84). -/
def nextMatched (s : State) : Bool := s.dlMatched || (s.dlArmed && nextCount s == s.cmp)

/-- The deadline event (R83): armed, matched, and the counter is at `cmp`, or `DEADLINE_LATENCY` ticks past the match (R84).
DESIGN CHOICE (log 4): with a latency the arming stays in force until the handler starts. -/
def deadlineDue (s : State) : Bool :=
  s.dlArmed && s.dlMatched && s.cnt == (s.cmp + s.params.deadlineLatency) % 2 ^ s.params.cntWidth

/-- The tolerance window `cmp - 2 <= cnt <= cmp + 10`, the lower bound 0 where `cmp < 2` (R84, R90). -/
def inWindow (s : State) : Bool := s.cmp - Config.winLo ≤ s.cnt && s.cnt ≤ s.cmp + Config.winHi

/-- A falling edge: high in the tick before, low now (R100). -/
def fallingSeen (s : State) : Bool := s.linePrev && !s.lineIn

/-- A rising edge: low in the tick before, high now (R100). -/
def risingSeen (s : State) : Bool := !s.linePrev && s.lineIn

/-- The pulse width is outside 450 to 510 (R106, R107). -/
def pulseRejected (pw : Nat) : Bool := pw < Config.tRstLo || Config.tRstHi < pw

/-- The pulse width is above 470 (R106, R108; meant of a width that is not rejected). -/
def pulseAccepted (pw : Nat) : Bool := Config.tRstAcc < pw

end Sys2Proof.Machine
end

