-- ==== Sys2Proof/Syntax.lean ====
section
/-! DEFINITION. The engine's instructions: one constructor per row of spec/opcode_table.json (R62, R63). -/

namespace Sys2Proof

/-- The ROM commands (R63) and the unknown command (R64). A command byte has no fields; only an unknown one is named by its value. -/
inductive Instr where
  /-- `0xF0` (R155 to R158). -/
  | searchRom
  /-- `0x55` (R150). -/
  | matchRom
  /-- `0xCC` (R163). -/
  | skipRom
  /-- `0x33` (R165). -/
  | readRom
  /-- `0xEC` (R160). -/
  | alarmSearch
  /-- Any other byte, `0x00` among them (R64, R168, decision D16). -/
  | unknown (value : Byte)
  deriving DecidableEq, Repr, Inhabited

end Sys2Proof
end

