-- ==== Sys2Proof/WellFormed.lean ====
section
/-! DEFINITION. Which instructions have an encoding: an unknown command's value is none of the five defined opcodes (R64). -/

namespace Sys2Proof

/-- The five defined opcodes (R63). -/
def definedOpcodes : List Byte := [0xF0#8, 0x55#8, 0xCC#8, 0x33#8, 0xEC#8]

/-- `unknown v` stands for a byte outside the opcode map of R63; every other instruction is well formed as it stands. -/
def Instr.wf : Instr → Bool
  | .searchRom => true
  | .matchRom => true
  | .skipRom => true
  | .readRom => true
  | .alarmSearch => true
  | .unknown v => !definedOpcodes.contains v

end Sys2Proof
end

