-- ==== Sys2Proof/Decode.lean ====
section
/-! DEFINITION. The command byte and its encoding (R62 to R64), the order of its bits on the wire (R43), and the decoder the host
reads the opcode table with. -/

namespace Sys2Proof

/-- The opcode map of R63, with the lowest-priority row UNKNOWN for every other byte (R64). -/
def decodeByte (b : Byte) : Instr :=
  if b = 0xF0#8 then .searchRom
  else if b = 0x55#8 then .matchRom
  else if b = 0xCC#8 then .skipRom
  else if b = 0x33#8 then .readRom
  else if b = 0xEC#8 then .alarmSearch
  else .unknown b

/-- Why the decoder reads no instruction. -/
inductive DecodeError where
  /-- There is no byte: the engine decodes only once all eight bits are in (R62). -/
  | noCommandByte
  deriving DecidableEq, Repr

/-- The instruction at the head of a list of bytes, and what follows it (its operand bits and later bytes are not decoded: R65, R67). -/
def decode : List Byte → Except DecodeError (Instr × List Byte)
  | [] => .error .noCommandByte
  | b :: rest => .ok (decodeByte b, rest)

/-- The command byte of an instruction (R63). -/
def encodeByte : Instr → Byte
  | .searchRom => 0xF0#8
  | .matchRom => 0x55#8
  | .skipRom => 0xCC#8
  | .readRom => 0x33#8
  | .alarmSearch => 0xEC#8
  | .unknown v => v

/-- The words of an instruction: one byte (R62, R66). -/
def encode (i : Instr) : List Byte := [encodeByte i]

/-- Bit `k` of a byte (R8). -/
def byteBit (v : Byte) (k : Cursor) : Bool := v.getLsbD k.toNat

/-- A byte in wire order: least significant bit first (R43). -/
def wireBits (v : Byte) : List Bool := (List.range 8).map fun k => v.getLsbD k

/-- The bytes of a table word, the first byte holding bits 7..0; at least one byte, zeros above `nbits`. -/
def tableBytes (nbits w : Nat) : List Byte :=
  (List.range (max 1 ((nbits + 7) / 8))).map fun k => BitVec.ofNat 8 (w % 2 ^ nbits / 2 ^ (8 * k))

/-- The instruction the decoder reads from a row of the opcode table. -/
def decodeTableWord (nbits w : Nat) : Option Instr :=
  match decode (tableBytes nbits w) with
  | .ok (i, _) => some i
  | .error _ => none

end Sys2Proof
end

