-- ==== Sys2Proof/Machine/Operands.lean ====
section
/-! DEFINITION. The operand forms: a bit of the identity (R40 to R44), and the bit a slot hands to the dispatcher (R121, R122, R127). -/

namespace Sys2Proof.Machine

/-- `IdRead(i, k)`: bit `k` of `id[i]` (R41). -/
def idRead (ident : Identity) (i k : Cursor) : Bool :=
  byteBit (ident[i.toNat]'i.isLt) k

/-- `IdBit()`: the identity bit under the cursor (R41). -/
def idBit (s : State) : Bool := idRead s.id s.idIndex s.bitCount

/-- The n-th identity bit on the wire, n = 0 to 63: `IdRead(7 - n div 8, n mod 8)` (R44). -/
def idWireBit (ident : Identity) (n : Nat) : Bool :=
  idRead ident (BitVec.ofNat 3 (7 - n / 8)) (BitVec.ofNat 3 (n % 8))

/-- The wire bit number the cursor stands at: `8 * (7 - id_index) + bit_count` (R44). -/
def wirePosition (s : State) : Nat := 8 * (7 - s.idIndex.toNat) + s.bitCount.toNat

/-- The identity as the 64 bits exchanged (R42 to R44). -/
def idWireBits (ident : Identity) : List Bool := (List.range 64).map (idWireBit ident)

/-- The bit a slot's deadline hands over: "the sampled-or-just-driven bit". In `Read` it is `read_val` (R122), else the level of
the line in this tick (R121, decision D26). DEDUCED (log 9): R127 passes it as an argument; here it is read where R121 and R122
take it from. -/
def handedBit (s : State) : Bool :=
  match s.pstate with
  | .read => s.readVal
  | _ => s.lineIn

end Sys2Proof.Machine
end

