-- ==== Sys2Proof/Machine/Ops.lean ====
section
/-! DEFINITION. The named operations the handlers and the commands are made of. -/

namespace Sys2Proof.Machine

/-! ### Registers -/

/-- `ShiftIn(b)`: `current_byte <- {b, current_byte[7:1]}` (R13, decision D12). -/
def shiftIn (b : Bool) (s : State) : State :=
  { s with currentByte := (BitVec.ofBool b ++ s.currentByte.extractLsb' 1 7 : BitVec 8) }

/-- `bit_count + 1`, three bits; the rules never apply it at 7 (R90). -/
def nextBit (s : State) : State := { s with bitCount := s.bitCount + 1#3 }

/-- `bit_count <- 0`. -/
def firstBit (s : State) : State := { s with bitCount := 0#3 }

/-- `ClearContext()`: the seven registers of the Transaction Context to 0 (R19, R21). -/
def clearContext (s : State) : State :=
  { s with
    bitCount := 0#3, currentByte := 0#8, romCommand := 0#8, romMatched := false, idIndex := 0#3, readVal := false, txByte := 0#8 }

/-- `schedule_after(us)` (R82); the new arming has met no match yet. -/
def scheduleAfter (us : Nat) (s : State) : State := { s with cnt := 0, cmp := us, dlArmed := true, dlMatched := false }

/-- `dl_armed <- 0`: the arming is consumed, and its match with it (R83). -/
def disarm (s : State) : State := { s with dlArmed := false, dlMatched := false }

/-- `line.drive_low()` (R198). -/
def driveLine (s : State) : State := { s with driveLow := true }

/-- `line.release()` (R198). -/
def releaseLine (s : State) : State := { s with driveLow := false }

/-! ### The application (R190 to R195) -/

/-- `set_tx_byte(v)` (R193). -/
def setTxByte (v : Byte) (s : State) : State := { s with txByte := v }

/-- A callback: the port pulses, and the application's last `set_tx_byte` during the call, if any, is seen by what the handler does
next (R190, R50). -/
def callApp (c : AppCall) (s : State) : State :=
  { s with call := some c, txByte := s.reply.staged.getD s.txByte }

/-- `bind_identity(bytes)`: a configuration step before the start, never an event of a run (R195, R233). -/
def bindIdentity (bytes : Identity) (s : State) : State := { s with id := bytes }

/-! ### The places a transaction ends (R200, R214): the engine's only "exceptions" -/

/-- `deselect()` (R128). -/
def deselect (s : State) : State := { s with pstate := .idle }

/-- `WatchdogHandler()` (R86, R214): the one forced recovery. It saves nothing and there is no return from it (R215). -/
def watchdogHandler (s : State) : State := clearContext { s with pstate := .idle }

/-- Power-on reset, event `rst` (R230): every register to its reset value; `id`, the inputs and the parameters stay. -/
def powerOnReset (s : State) : State :=
  { clearContext s with
    pstate := .idle, cnt := 0, cmp := 0, dlArmed := false, riseEn := false, linePrev := true, driveLow := false, call := none,
    dlMatched := false }

/-! ### The cursor and the read slot (R143 to R146) -/

/-- `LoadRead()` (R144). -/
def loadRead (s : State) : State := { s with readVal := idBit s, pstate := .read }

/-- `Advance()`: one bit forward in wire order (R145). -/
def advance (s : State) : State :=
  if s.bitCount = 7#3 then { s with bitCount := 0#3, idIndex := s.idIndex - 1#3 } else nextBit s

/-- `Select()` (R146). -/
def select (s : State) : State := callApp .onSelected { s with romMatched := true }

/-- `Latch()` without its first step (R141): the byte just assembled becomes the command, the cursor goes to wire bit 0. -/
def latch (s : State) : State :=
  { s with bitCount := 0#3, romCommand := s.currentByte, idIndex := 7#3 }

/-! ### Outcomes -/

/-- Go on with a next state; a fault or a refusal ends the step. -/
def andThen (r : Result) (f : State → Result) : Result :=
  match r with
  | .next s => f s
  | .fault e => .fault e
  | .refused e => .refused e

end Sys2Proof.Machine
end

