-- ==== Sys2Proof/Machine/Bridge.lean ====
section
/-! DEFINITION. The Byte/Application Bridge (R180 to R183): what a selected engine does with the bit of a slot. -/

namespace Sys2Proof.Machine

/-- `Bridge(b)` in `Write`: byte reception, and the turnaround the application asks for (R180). -/
def bridgeReceive (s : State) : State :=
  let s₁ := shiftIn (handedBit s) s
  if s.bitCount = 7#3 then
    let s₂ := callApp (.onByteReceived s₁.currentByte) (firstBit s₁)
    if s₂.reply.wantTransmit then { s₂ with pstate := .read, readVal := byteBit s₂.txByte 0#3 } else s₂
  else nextBit s₁

/-- `Bridge(b)` in `Read`: byte transmission (R181, R183). -/
def bridgeTransmit (s : State) : State :=
  let s₁ := if s.bitCount = 7#3 then callApp .onByteSent (firstBit s) else nextBit s
  { s₁ with readVal := byteBit s₁.txByte s₁.bitCount }

/-- `Bridge(b)` (R180, R181). -/
def bridge (s : State) : State :=
  if s.pstate = .write then bridgeReceive s else bridgeTransmit s

end Sys2Proof.Machine
end

