-- ==== Sys2Proof/Machine/RomCommands.lean ====
section
/-! DEFINITION. The ROM Command Resolver (R142, R150 to R170). A command acts in the deadline handler of a slot, in one of two ways:
while `rom_command = 0` the eighth command bit has just been shifted in and the command is latched and takes its first step (R141,
R142); afterwards it takes the bit the slot handed over (R127). DEDUCED (log 9): one meaning holds both. -/

namespace Sys2Proof.Machine

/-- `MatchRom(b)` (R150). -/
def matchBit (s : State) : State :=
  if s.pstate ≠ .write then deselect s
  else if handedBit s ≠ idBit s then deselect s
  else if s.bitCount = 7#3 then
    if s.idIndex = 0#3 then select (firstBit s) else { firstBit s with idIndex := s.idIndex - 1#3 }
  else nextBit s

/-- `SearchRom(b)` in `Write`: the master's direction bit (R155). -/
def searchDirection (s : State) : State :=
  if handedBit s ≠ s.readVal then deselect s
  else if lastBit s then select (firstBit s)
  else loadRead (advance s)

/-- `SearchRom(b)` in `Read`: a half-slot (R156). -/
def searchHalfSlot (s : State) : State :=
  if (!s.readVal) = idBit s then { s with readVal := !s.readVal, pstate := .write } else { s with readVal := !s.readVal }

/-- `SearchRom(b)` (R155, R156). -/
def searchBit (s : State) : State :=
  if s.pstate = .write then searchDirection s else searchHalfSlot s

/-- `ReadRom(b)` (R165; `Write` after selection is decision D18). -/
def readRomBit (s : State) : State :=
  if s.pstate ≠ .read then deselect s
  else if lastBit s then { select (firstBit s) with pstate := .write }
  else { advance s with readVal := idBit (advance s) }

/-- `SEARCH_ROM` (R142, R155 to R158). -/
def execSearchRom (s : State) : Result :=
  .next (if noCommandYet s then loadRead (latch s) else searchBit s)

/-- `MATCH_ROM` (R142, R150): the first step does nothing (decision D13). -/
def execMatchRom (s : State) : Result :=
  .next (if noCommandYet s then latch s else matchBit s)

/-- `SKIP_ROM` (R142, R163); its arm in the per-bit dispatcher deselects (R169, decision D19). -/
def execSkipRom (s : State) : Result :=
  .next (if noCommandYet s then select (latch s) else deselect s)

/-- `READ_ROM` (R142, R165). -/
def execReadRom (s : State) : Result :=
  .next (if noCommandYet s then loadRead (latch s) else readRomBit s)

/-- `ALARM_SEARCH` (R142, R160): the gate is read once, at the latch (decision D17). -/
def execAlarmSearch (s : State) : Result :=
  .next (if noCommandYet s then (if s.alarmCondition then loadRead (latch s) else deselect (latch s)) else searchBit s)

/-- An unknown command (R142, R168), and the unreachable arm of the per-bit dispatcher (R170, decision D19). -/
def execUnknown (s : State) : Result :=
  .next (if noCommandYet s then deselect (latch s) else deselect s)

end Sys2Proof.Machine
end

