-- ==== Sys2Proof/Machine/Deadline.lean ====
section
/-! DEFINITION. The Bit-Level State Machine (R120 to R129): the deadline handler, the dispatcher, and the reception of the command
byte, which is where the engine fetches its instruction (R53, R140). -/

namespace Sys2Proof.Machine

/-- `ReceiveCommandBit(b)` (R140): the eighth bit completes the command byte and runs it (R141). -/
def receiveCommandBit (s : State) : Result :=
  if s.pstate ≠ .write then .next (deselect s)
  else
    let s₁ := shiftIn (handedBit s) s
    if s.bitCount = 7#3 then exec (decodeByte s₁.currentByte) s₁ else .next (nextBit s₁)

/-- `ProcessBit(b)` (R127). -/
def processBit (s : State) : Result :=
  if s.romMatched then .next (bridge s)
  else if noCommandYet s then receiveCommandBit s
  else exec (decodeByte s.romCommand) s

/-- The arms of `DeadlineHandler(line_in)` by state (R121 to R125). -/
def deadlineArm (s : State) : Result :=
  match s.pstate with
  | .write => processBit (releaseLine s)
  | .read => processBit (releaseLine s)
  | .presencePulse => .next { releaseLine s with pstate := .write }
  | .presenceWait => .next (scheduleAfter Config.tPpulse { driveLine s with pstate := .presencePulse })
  | .idle => .next s

/-- `DeadlineHandler(line_in)` (R120): outside the tolerance window the event is dropped (R84). -/
def deadlineHandler (s : State) : Result :=
  if inWindow s then deadlineArm s else .next s

end Sys2Proof.Machine
end

