-- ==== Sys2Proof/Machine/Edge.lean ====
section
/-! DEFINITION. The Edge Handshake (R100 to R113): reset pulses and the start of slots. -/

namespace Sys2Proof.Machine

/-- `FallingEdge()` (R101 to R104). -/
def fallingEdge (s : State) : State :=
  match s.pstate with
  | .idle => { scheduleAfter s.params.resetTimeoutCmp s with riseEn := true }
  | .write => scheduleAfter Config.tWsample s
  | .read => scheduleAfter Config.tRslot (if s.readVal then releaseLine s else driveLine s)
  | .presenceWait => s
  | .presencePulse => s

/-- `Reject()` (R107). -/
def rejectPulse (s : State) : State := { s with riseEn := false }

/-- `Accept()` (R108; clearing `rise_en` is decision D7). -/
def acceptPulse (s : State) : State :=
  scheduleAfter Config.tPdly { clearContext { s with riseEn := false } with pstate := .presenceWait }

/-- `DeadZone()` (R109). -/
def deadZone (s : State) : State := if s.params.deadzoneAccept then acceptPulse s else s

/-- `RisingEdge()` (R106, R110): measured only in `Idle` with `rise_en = 1`. -/
def risingEdge (s : State) : State :=
  if s.pstate = .idle ∧ s.riseEn = true then
    if pulseRejected s.cnt then rejectPulse s
    else if pulseAccepted s.cnt then acceptPulse s
    else deadZone s
  else s

/-- At most one edge handler a tick (R100). -/
def edgePart (s : State) : State :=
  if fallingSeen s then fallingEdge s else if risingSeen s then risingEdge s else s

end Sys2Proof.Machine
end

