-- ==== Sys2Proof/Machine/Tick.lean ====
section
/-! DEFINITION. The Timing Engine's tick (R80 to R88), the ports it samples (R30, R222), and the placing of an instruction where the
next tick runs it. -/

namespace Sys2Proof.Machine

/-- `cnt <- (cnt + 1) mod 2^CNT_WIDTH` (R80, R81), and the comparator looks at the new count (R83). -/
def countUp (s : State) : State := { s with cnt := nextCount s, dlMatched := nextMatched s }

/-- The deadline event: the arming is consumed and the handler runs (R83). -/
def deadlinePart (s : State) : Result :=
  if deadlineDue s then deadlineHandler (disarm s) else .next s

/-- The watchdog event, on the incremented count `c` (R80, R85). -/
def watchdogPart (c : Nat) (s : State) : State :=
  if c = Config.tWdg then watchdogHandler s else s

/-- The timer part of a tick: deadline, then watchdog, both on the same count (R80). -/
def timerPart (s : State) : Result :=
  andThen (deadlinePart s) fun s₁ => .next (watchdogPart s.cnt s₁)

/-- The edge handler of this tick calls `schedule_after`: run on an unarmed engine it leaves it armed (R82, R87). -/
def edgeRearms (s : State) : Bool := (edgePart (disarm s)).dlArmed

/-- The timer part and the edge part in the order of `SIMUL_ORDER` (R80, R212). DESIGN CHOICE (log 5): with the edge first, an edge
handler that calls `schedule_after` has replaced the arming and postponed the watchdog (R82, R85), so no timer event is left in that
tick. -/
def handlers (s : State) : Result :=
  match s.params.simulOrder with
  | .timerFirst => andThen (timerPart s) fun s₁ => .next (edgePart s₁)
  | .edgeFirst => if edgeRearms s then .next (edgePart s) else timerPart (edgePart s)

/-- `line_prev <- line_in` (R80, R100). -/
def followLine (s : State) : State := { s with linePrev := s.lineIn }

/-- `TICK(line_in)` with the input ports already sampled (R80). -/
def tick (s : State) : Result :=
  andThen (handlers (countUp s)) fun s₁ => .next (followLine s₁)

/-- The level the engine samples: the line is low if anyone pulled it low, the engine itself with its output of the tick before
(R222, decision D22). -/
def lineLevel (release : Bool) (s : State) : Bool := release && !s.driveLow

/-- The input ports take the values of this tick (R30); no callback has been made in it yet. -/
def samplePorts (i : TickInput) (s : State) : State :=
  { s with lineIn := lineLevel i.release s, alarmCondition := i.alarm, reply := i.reply, call := none }

/-- One tick with the given inputs (R9, R80). -/
def tickWith (i : TickInput) (s : State) : Result := tick (samplePorts i s)

/-- The next event: the oldest of the list, or a free one when the list has run out (log 6). -/
def nextEvent (s : State) : Event :=
  match s.events with
  | e :: _ => e
  | [] => Config.freeEvent s.steps

/-- The event is taken: it leaves the list and the step is counted. -/
def takeEvent (s : State) : State := { s with events := s.events.tail, steps := s.steps + 1 }

/-- What an event does (R9, R230). -/
def applyEvent (e : Event) (s : State) : Result :=
  match e with
  | .tick i => tickWith i s
  | .rst => .next (powerOnReset s)

/-- The command byte of a table word: its first byte. -/
def fetchByte (nbits w : Nat) : Byte := (tableBytes nbits w).headD 0#8

/-- The engine in the eighth write slot of a command: seven bits of `b` are in, and the next tick is the slot's deadline, in which
the line carries bit 7 of `b` (R62, R102, R121, R140); with a latency the match lies behind it. The level was the same in the tick before, so that tick has no edge (log 11). -/
def placeCommand (b : Byte) (s : State) : State :=
  { s with
    pstate := .write
    romMatched := false
    romCommand := 0#8
    bitCount := 7#3
    currentByte := b <<< 1
    cnt := Config.tWsample + s.params.deadlineLatency - 1
    cmp := Config.tWsample
    dlArmed := true
    dlMatched := 0 < s.params.deadlineLatency
    driveLow := false
    linePrev := b.getLsbD 7
    events := .tick { release := b.getLsbD 7, alarm := s.alarmCondition, reply := AppReply.silent } :: s.events }

end Sys2Proof.Machine
end

