-- ==== Sys2Proof/Machine/Step.lean ====
section
/-! DEFINITION. One step: the next event happens to the engine (R9). -/

namespace Sys2Proof.Machine

/-- One step of the machine: one tick, or a power-on reset (R9, R80, R230). -/
def step (s : State) : Host.Outcome State Fault Refusal := applyEvent (nextEvent s) (takeEvent s)

/-- The state in which the very next step latches and runs the instruction of a table word (log 11). -/
def State.withFetchWord (s : State) (nbits w : Nat) : State := placeCommand (fetchByte nbits w) s

end Sys2Proof.Machine
end

