-- ==== Sys2Proof/Machine/App.lean ====
section
/-! DEFINITION. The application collaborator as R190 describes it, a record of three callbacks over a state of its own, and an engine
coupled to one. State itself takes an application only as the answer it gives in each tick (log 7); this file ties the two together. -/

namespace Sys2Proof.Machine

/-- An application (R190): each callback answers with its new state and the last value it gave to `set_tx_byte`, if any. -/
structure App (σ : Type) where
  onSelected : σ → σ × Option Byte
  onByteReceived : σ → Byte → σ × Bool × Option Byte
  onByteSent : σ → σ × Option Byte

/-- The application is called (R191, R192, R194). -/
def App.answer {σ : Type} (a : App σ) (x : σ) (c : AppCall) : σ × AppReply :=
  match c with
  | .onSelected => ((a.onSelected x).1, { wantTransmit := false, staged := (a.onSelected x).2 })
  | .onByteReceived b =>
    ((a.onByteReceived x b).1, { wantTransmit := (a.onByteReceived x b).2.1, staged := (a.onByteReceived x b).2.2 })
  | .onByteSent => ((a.onByteSent x).1, { wantTransmit := false, staged := (a.onByteSent x).2 })

/-- The smallest application (R190). -/
def nullApp : App Unit where
  onSelected x := (x, none)
  onByteReceived x _ := (x, false, none)
  onByteSent x := (x, none)

/-- The reference application of R197 (decision D15): `0xBB` restarts an 8-bit counter whose values are streamed. -/
def counterApp : App Byte where
  onSelected k := (k, none)
  onByteReceived k v := if v = 0xBB#8 then (0#8, true, some 0#8) else (k, false, none)
  onByteSent k := (k + 1#8, some (k + 1#8))

/-- One tick of an engine coupled to an application (R190): a tick makes at most one callback, and which one it makes does not
depend on the answer, so a first tick with the silent answer finds the call and a second one runs with the application's answer. -/
def App.tick {σ : Type} (a : App σ) (release alarm : Bool) (s : State) (x : σ) : Result × σ :=
  match tickWith { release := release, alarm := alarm, reply := AppReply.silent } s with
  | .next p =>
    match p.call with
    | none => (.next p, x)
    | some c => (tickWith { release := release, alarm := alarm, reply := (a.answer x c).2 } s, (a.answer x c).1)
  | r => (r, x)

end Sys2Proof.Machine
end

