-- ==== Sys2Proof/Machine/Bus.lean ====
section
/-! DEFINITION. Several engines on one line (R220 to R222): they share nothing but the level of the line. -/

namespace Sys2Proof.Machine

/-- The level every engine samples: released by the master and pulled low by no engine's output of the tick before (R222). -/
def busLevel (release : Bool) (engines : List State) : Bool := release && engines.all fun e => !e.driveLow

/-- One tick of all engines on the line; each comes with its own alarm input and its own application's answer (R220). -/
def busTick (release : Bool) (engines : List (State × Bool × AppReply)) : List Result :=
  engines.map fun e =>
    tickWith { release := busLevel release (engines.map fun f => f.1), alarm := e.2.1, reply := e.2.2 } e.1

end Sys2Proof.Machine
end

