-- ==== Sys2Proof/Machine/Stimulus.lean ====
section
/-! DEFINITION. The spec's notation for what a test-bench master does with the line (R70 to R76, decision D24). The durations in it are
test-bench choices, no property of the engine. -/

namespace Sys2Proof.Machine

/-- The words that stand for ticks (R71 to R74). -/
inductive Stimulus where
  /-- `RESET w` (R71). -/
  | reset (w : Nat)
  /-- `WAIT t` (R72). -/
  | wait (t : Nat)
  /-- `W0` and `W1` (R73). -/
  | writeSlot (bit : Bool)
  /-- `R` (R74). -/
  | readSlot
  deriving DecidableEq, Repr

/-- `n` ticks at one level. -/
def hold (level : Bool) (n : Nat) : List Bool := List.replicate n level

/-- `m_release` in the ticks of a word (R70 to R74). -/
def Stimulus.levels : Stimulus → List Bool
  | .reset w => hold false w
  | .wait t => hold true t
  | .writeSlot true => hold false 6 ++ hold true 64
  | .writeSlot false => hold false 60 ++ hold true 10
  | .readSlot => hold false 6 ++ hold true 64

/-- `WBYTE b` (R75). -/
def writeByte (b : Byte) : List Stimulus := (wireBits b).map .writeSlot

/-- `RBYTE` (R75). -/
def readByte : List Stimulus := List.replicate 8 .readSlot

/-- `PRESENCE` (R75). -/
def presence : List Stimulus := [.reset 480, .wait 300]

/-- `WID id` (R75). -/
def writeIdentity (ident : Identity) : List Stimulus := (idWireBits ident).map .writeSlot

/-- `SBIT d` (R75). -/
def searchTriple (d : Bool) : List Stimulus := [.readSlot, .readSlot, .writeSlot d]

/-- `SKIP` (R75). -/
def skipWords : List Stimulus := writeByte 0xCC#8

/-- `MATCH id` (R75). -/
def matchWords (ident : Identity) : List Stimulus := writeByte 0x55#8 ++ writeIdentity ident

/-- `READROM` (R75). -/
def readRomWords : List Stimulus := writeByte 0x33#8 ++ List.replicate 64 .readSlot

/-- `SEARCH` with the directions the master writes (R75). -/
def searchWords (directions : List Bool) : List Stimulus := writeByte 0xF0#8 ++ directions.flatMap searchTriple

/-- `ALARMSEARCH` with the directions the master writes (R75). -/
def alarmSearchWords (directions : List Bool) : List Stimulus := writeByte 0xEC#8 ++ directions.flatMap searchTriple

/-- The ticks of a program of stimulus words, with one alarm level and a silent application (R70). -/
def stimulusEvents (alarm : Bool) (program : List Stimulus) : List Event :=
  (program.flatMap Stimulus.levels).map fun l => .tick { release := l, alarm := alarm, reply := AppReply.silent }

/-- The line in each tick of the next `n` steps, until one stops: the waveform of R76. -/
def waveform : Nat → State → List Bool
  | 0, _ => []
  | n + 1, s =>
    match step s with
    | .next s' => s'.lineIn :: waveform n s'
    | _ => []

/-- A waveform as run lengths (R76): `(false, 480)` is `L480`. -/
def runLengths : List Bool → List (Bool × Nat)
  | [] => []
  | b :: rest =>
    match runLengths rest with
    | (c, n) :: more => if b = c then (c, n + 1) :: more else (b, 1) :: (c, n) :: more
    | [] => [(b, 1)]

/-- The value the master takes from a read slot: the line 15 ticks after the falling tick (R74). -/
def slotValue (levels : List Bool) : Bool := levels.getD 15 true

/-- What the master reads in a program, given the line from the program's first tick on: one value for each read slot, in order
(R70, R74). -/
def slotValues : List Stimulus → List Bool → List Bool
  | [], _ => []
  | .readSlot :: words, line => slotValue line :: slotValues words (line.drop Stimulus.readSlot.levels.length)
  | word :: words, line => slotValues words (line.drop word.levels.length)

/-- The number the bits make, the first of them at bit 0. -/
def bitsValue : List Bool → Nat
  | [] => 0
  | b :: bits => b.toNat + 2 * bitsValue bits

/-- The value of `RBYTE`: the first slot's bit at bit 0, the eighth's at bit 7 (R75). -/
def readByteValue (line : List Bool) : Byte := BitVec.ofNat 8 (bitsValue (slotValues readByte line))

/-- The value of `SBIT d`: the pair of read results (R75). -/
def searchTripleValue (d : Bool) (line : List Bool) : Bool × Bool :=
  let values := slotValues (searchTriple d) line
  (values.getD 0 true, values.getD 1 true)

end Sys2Proof.Machine
end

