-- ==== Sys2Proof/Safety.lean ====
section
/-! DEFINITION. What a safe engine looks like between two steps, and the words the statements are written in. -/

namespace Sys2Proof.Machine

/-- The seven registers of the Transaction Context are 0 (R19, R21). -/
abbrev ContextClear (s : State) : Prop :=
  s.bitCount = 0#3 ∧ s.currentByte = 0#8 ∧ s.romCommand = 0#8 ∧ s.romMatched = false ∧ s.idIndex = 0#3 ∧ s.readVal = false ∧
    s.txByte = 0#8

/-- The commands a device can be selected by (R34 item 4). -/
def selectingCommands : List Byte := [0xCC#8, 0x55#8, 0xF0#8, 0xEC#8, 0x33#8]

/-- The commands served by `SearchRom(b)` (R127). -/
def searchCommands : List Byte := [0xF0#8, 0xEC#8]

/-- The value each state's pending deadline was armed with (R126). -/
def armedValue (s : State) : Nat :=
  match s.pstate with
  | .idle => s.params.resetTimeoutCmp
  | .presenceWait => Config.tPdly
  | .presencePulse => Config.tPpulse
  | .write => Config.tWsample
  | .read => Config.tRslot

/-- What holds between two steps of an engine with legal parameters. Items 1 to 5 of R34, with what they need to be kept: which
deadline can be pending (R126), the context during presence (R123), and which command meets which state (R170, R155). -/
structure Inv (s : State) : Prop where
  /-- The parameters are in their ranges (R7). -/
  params : s.params.Valid
  /-- The counter fits its width (R22). -/
  cnt_fits : s.cnt < 2 ^ s.params.cntWidth
  /-- The compare register fits its width (R23). -/
  cmp_fits : s.cmp < 2 ^ s.params.cntWidth
  /-- R34 item 1. -/
  driven : s.driveLow = true → s.pstate = .presencePulse ∨ (s.pstate = .read ∧ s.readVal = false ∧ s.dlArmed = true)
  /-- R34 item 2. -/
  presence_armed : s.pstate = .presenceWait ∨ s.pstate = .presencePulse → s.dlArmed = true
  /-- R34 item 3. -/
  no_command : s.romCommand = 0#8 → (s.pstate = .write ∨ s.pstate = .read) → s.pstate = .write ∧ s.romMatched = false
  /-- R34 item 4. -/
  matched_command : s.romMatched = true → s.romCommand ∈ selectingCommands
  /-- R34 item 5. -/
  rise_idle : s.riseEn = true → s.pstate = .idle
  /-- R126: a pending deadline was armed with its state's value. -/
  armed_value : s.dlArmed = true → s.cmp = armedValue s
  /-- R126: outside `Idle` a pending deadline has not been passed yet, and it has been matched exactly if the counter is at it. -/
  armed_ahead : s.dlArmed = true → s.pstate ≠ .idle →
    s.cnt < s.cmp + s.params.deadlineLatency ∧ (s.dlMatched = true ↔ s.cmp ≤ s.cnt)
  /-- R83: only an arming in force has a match (log 4). -/
  matched_armed : s.dlMatched = true → s.dlArmed = true
  /-- R210: with `DEADLINE_LATENCY` 0 no event is left over from one tick to the next. -/
  nothing_latched : s.params.deadlineLatency = 0 → s.dlMatched = false
  /-- R123: the context is all zero until the first command slot. -/
  presence_context : s.pstate = .presenceWait ∨ s.pstate = .presencePulse → ContextClear s
  /-- R170: what an unselected engine can be receiving. -/
  unmatched_write : s.pstate = .write → s.romMatched = false → s.romCommand = 0#8 ∨ s.romCommand = 0x55#8 ∨ s.romCommand ∈ searchCommands
  /-- R170: what an unselected engine can be sending. -/
  unmatched_read : s.pstate = .read → s.romMatched = false → s.romCommand = 0x33#8 ∨ s.romCommand ∈ searchCommands
  /-- R155: while a direction bit is awaited, `read_val` is the identity bit under the cursor. -/
  direction_pending : s.pstate = .write → s.romMatched = false → s.romCommand ∈ searchCommands → s.readVal = idBit s
  /-- R165: Read ROM is sending the identity bit under the cursor. -/
  identity_sent : s.pstate = .read → s.romMatched = false → s.romCommand = 0x33#8 → s.readVal = idBit s
  /-- R180, R181: a selected engine in `Read` is sending `tx_byte` at `bit_count`. -/
  byte_sent : s.pstate = .read → s.romMatched = true → s.readVal = byteBit s.txByte s.bitCount

/-- The transitions of R129, and staying where one is. -/
def pstateMoves : List (PState × PState) :=
  [(.idle, .idle), (.presenceWait, .presenceWait), (.presencePulse, .presencePulse), (.write, .write), (.read, .read),
   (.idle, .presenceWait), (.presenceWait, .presencePulse), (.presencePulse, .write),
   (.write, .read), (.write, .idle), (.read, .write), (.read, .idle)]

/-- The state a tick starts its handlers from: event taken, ports sampled, counter incremented (R80). -/
def started (i : TickInput) (s : State) : State := countUp (samplePorts i (takeEvent s))

/-- No edge in this tick: the line keeps its level (R100). -/
abbrev LineSteady (i : TickInput) (s : State) : Prop := lineLevel i.release s = s.linePrev

/-- The line falls in this tick (R100). -/
abbrev LineFalls (i : TickInput) (s : State) : Prop := s.linePrev = true ∧ lineLevel i.release s = false

/-- The line rises in this tick (R100). -/
abbrev LineRises (i : TickInput) (s : State) : Prop := s.linePrev = false ∧ lineLevel i.release s = true

/-- No edge in this tick, or a rising edge that is not enabled and so does nothing (R110, decision D21). -/
abbrev NoEdgeActs (i : TickInput) (s : State) : Prop := LineSteady i s ∨ (LineRises i s ∧ s.riseEn = false)

/-- A deadline handler starts in the next tick (R83, R84). -/
abbrev DeadlineNext (s : State) : Prop :=
  s.dlArmed = true ∧ nextMatched s = true ∧ nextCount s = (s.cmp + s.params.deadlineLatency) % 2 ^ s.params.cntWidth

/-- The counter of the next tick is in the tolerance window (R84). -/
abbrev WindowNext (s : State) : Prop := s.cmp - 2 ≤ nextCount s ∧ nextCount s ≤ s.cmp + 10

/-- The watchdog event comes in the next tick (R85). -/
abbrev WatchdogNext (s : State) : Prop := nextCount s = Config.tWdg

/-- The deadlines of consecutive slots, as the bit-level machine sees them: one level of the line at each (R121, R122). -/
def slotDeadlines : List Bool → State → Result
  | [], s => .next s
  | b :: bs, s => andThen (deadlineArm { s with lineIn := b }) (slotDeadlines bs)

/-- The bits the engine sends in the next `n` read slots: `read_val` at each slot's falling edge (R103, R122). -/
def sentBits : Nat → State → List Bool
  | 0, _ => []
  | n + 1, s =>
    s.readVal :: match deadlineArm s with
      | .next t => sentBits n t
      | _ => []

/-- `n` ticks in which everyone else leaves the line at one level. -/
def heldTicks (release : Bool) (n : Nat) : List Event :=
  List.replicate n (.tick { release := release, alarm := false, reply := AppReply.silent })

/-- `n` steps of the machine (Host.Core.run). -/
def runSteps (n : Nat) (s : State) : Result := Host.Core.run Sys2Proof.core n s

end Sys2Proof.Machine
end

