-- ==== Sys2Proof/Certificates/Slice0/Obligations.lean ====
section
/-! DEFINITION. The statements for the provers. Where a docstring says "decision D<n>" the clause rests on a choice the spec marks as its
own (92_eei_decisions.md); "log <n>" is a choice of the model. -/

open Sys2Proof Sys2Proof.Machine

/-! ### Encoding -/

/-- R62 to R64: no bit of a command byte is dropped, and what follows it is left as it stands. -/
def Obligations.CommandByteRoundTrip : Prop :=
  ∀ (i : Instr) (rest : List Byte), i.wf = true → decode (encode i ++ rest) = .ok (i, rest)

/-- R63, R64: every byte has exactly one meaning, and the bytes outside the opcode map are the unknown commands, `0x00` (decision
D16) among them. -/
def Obligations.EveryByteHasOneMeaning : Prop :=
  (∀ b : Byte, (decodeByte b).wf = true ∧ encode (decodeByte b) = [b] ∧ (b ∉ definedOpcodes ↔ decodeByte b = .unknown b)) ∧
  decodeByte 0x00#8 = .unknown 0x00#8

/-- R63: the opcode map, its bits 7..0 and its wire order, as the table of 30_encoding.md writes them. -/
def Obligations.OpcodeMapWords : Prop :=
  decodeByte 0b11110000#8 = .searchRom ∧ decodeByte 0b01010101#8 = .matchRom ∧ decodeByte 0b11001100#8 = .skipRom ∧
  decodeByte 0b00110011#8 = .readRom ∧ decodeByte 0b11101100#8 = .alarmSearch ∧
  wireBits 0xF0#8 = [false, false, false, false, true, true, true, true] ∧
  wireBits 0x55#8 = [true, false, true, false, true, false, true, false] ∧
  wireBits 0xCC#8 = [false, false, true, true, false, false, true, true] ∧
  wireBits 0x33#8 = [true, true, false, false, true, true, false, false] ∧
  wireBits 0xEC#8 = [false, false, true, true, false, true, true, true]

/-- R13, R43: eight bits shifted in least significant first are the byte, whatever `current_byte` held, and nothing else is
written. The shift itself is decision D12. -/
def Obligations.WireOrderAssemblesTheByte : Prop :=
  ∀ (s : State) (b : Byte), (wireBits b).foldl (fun t x => shiftIn x t) s = { s with currentByte := b }

/-! ### The identity store -/

/-- R42 to R44, R145: wire bit `n` is bit `n mod 8` of byte `7 - n div 8`; the bit under the cursor is the wire bit whose number the
cursor stands at; away from the last bit `Advance()` moves the cursor one wire bit on and writes nothing else. -/
def Obligations.IdentityWireOrder : Prop :=
  (∀ (ident : Identity) (n : Nat), n < 64 →
    idWireBit ident n = ((ident.toList.getD (7 - n / 8) 0#8).getLsbD (n % 8))) ∧
  (∀ s : State, idBit s = idWireBit s.id (wirePosition s) ∧ wirePosition s < 64) ∧
  (∀ s : State, lastBit s = false →
    wirePosition (advance s) = wirePosition s + 1 ∧
    advance s = { s with bitCount := (advance s).bitCount, idIndex := (advance s).idIndex })

/-! ### Reset -/

/-- R230, R35: what power-on reset leaves (decision D11), with the default parameters of R7. -/
def Obligations.ResetRegisterValues : Prop :=
  State.reset.pstate = .idle ∧ ContextClear State.reset ∧ State.reset.cnt = 0 ∧ State.reset.cmp = 0 ∧
  State.reset.dlArmed = false ∧ State.reset.riseEn = false ∧ State.reset.linePrev = true ∧ State.reset.driveLow = false ∧
  State.reset.params.cntWidth = 16 ∧ State.reset.params.resetTimeoutCmp = 65535 ∧
  State.reset.params.deadzoneAccept = false ∧ State.reset.params.deadlineLatency = 0 ∧
  State.reset.params.simulOrder = .timerFirst

/-- R230: the event `rst` sets every register (decision D11) and leaves the identity, the inputs and the parameters. -/
def Obligations.PowerOnResetEvent : Prop :=
  ∀ (s : State) (rest : List Event), s.events = .rst :: rest →
    step s = .next { s with
      pstate := .idle, bitCount := 0#3, currentByte := 0#8, romCommand := 0#8, romMatched := false, idIndex := 0#3,
      readVal := false, txByte := 0#8, cnt := 0, cmp := 0, dlArmed := false, riseEn := false, linePrev := true,
      driveLow := false, call := none, dlMatched := false, events := rest, steps := s.steps + 1 }

/-- The engine right after reset meets the invariant. -/
def Obligations.ResetMeetsInvariant : Prop := Inv State.reset

/-- R34 items 1 to 5, with R126, R123, R155, R165, R170, R181 and R210: every step keeps the invariant, whatever the event, the
application and the legal parameters (a latency above 0 is read as log 4 says, the order edge first as log 5 says). -/
def Obligations.StepKeepsInvariant : Prop :=
  ∀ s t : State, Inv s → step s = .next t → Inv t

/-- R200: no bus input, application answer or reset event stops the engine, in any state. -/
def Obligations.EveryStepHasANextState : Prop :=
  ∀ s : State, ∃ t, step s = .next t

/-! ### Edges (R100 to R113) -/

/-- R101: a falling edge in `Idle` zeroes the counter, arms the wide timeout (decision D5) and enables rising-edge detection, also in
the tick of an older timeout, in either order of the tick's parts (R212: decision D9; log 5). -/
def Obligations.FallingEdgeInIdle : Prop :=
  ∀ (s : State) (i : TickInput) (rest : List Event),
    s.events = .tick i :: rest → s.pstate = .idle → LineFalls i s → ¬ WatchdogNext s →
    step s = .next { s with
      cnt := 0, cmp := s.params.resetTimeoutCmp, dlArmed := true, dlMatched := false, riseEn := true, linePrev := false, lineIn := false,
      alarmCondition := i.alarm, reply := i.reply, call := none, events := rest, steps := s.steps + 1 }

/-- R102, R82: a falling edge in `Write` arms the sample 40 ticks later; an arming still pending is replaced, with a latency also one that
is matched already (log 4). -/
def Obligations.FallingEdgeInWrite : Prop :=
  ∀ (s : State) (i : TickInput) (rest : List Event),
    s.events = .tick i :: rest → s.pstate = .write → LineFalls i s → ¬ DeadlineNext s → ¬ WatchdogNext s →
    step s = .next { s with
      cnt := 0, cmp := 40, dlArmed := true, dlMatched := false, linePrev := false, lineIn := false,
      alarmCondition := i.alarm, reply := i.reply, call := none, events := rest, steps := s.steps + 1 }

/-- R103: a falling edge in `Read` drives the line low for a 0 and releases it for a 1, at once, and arms the release 50 ticks
later; an arming still pending is replaced, with a latency also one that is matched already (log 4). -/
def Obligations.FallingEdgeInRead : Prop :=
  ∀ (s : State) (i : TickInput) (rest : List Event),
    s.events = .tick i :: rest → s.pstate = .read → LineFalls i s → ¬ DeadlineNext s → ¬ WatchdogNext s →
    step s = .next { s with
      driveLow := !s.readVal, cnt := 0, cmp := 50, dlArmed := true, dlMatched := false, linePrev := false, lineIn := false,
      alarmCondition := i.alarm, reply := i.reply, call := none, events := rest, steps := s.steps + 1 }

/-- R80, R100, R104, R110: a tick without a timer event in which the line keeps its level only counts and samples the ports, in every
state, so that a byte begun stays as it is between two slots (R46: decision D27). A falling edge during presence, and a rising edge
outside `Idle` or with `rise_en = 0`, do nothing either (decision D21): that tick also follows the line. With a latency the match of an
arming is remembered and the arming stays in force until its handler starts (log 4). -/
def Obligations.OtherEdgesDoNothing : Prop :=
  ∀ (s : State) (i : TickInput) (rest : List Event),
    s.events = .tick i :: rest → ¬ DeadlineNext s → ¬ WatchdogNext s →
    ((LineFalls i s ∧ (s.pstate = .presenceWait ∨ s.pstate = .presencePulse)) ∨
      (LineRises i s ∧ (s.pstate ≠ .idle ∨ s.riseEn = false)) ∨ LineSteady i s) →
    step s = .next { s with
      cnt := nextCount s, dlMatched := nextMatched s, linePrev := lineLevel i.release s, lineIn := lineLevel i.release s,
      alarmCondition := i.alarm, reply := i.reply, call := none, events := rest, steps := s.steps + 1 }

/-- R107: a pulse shorter than 450 or longer than 510 ticks only disables rising-edge detection. A wide timeout (decision D5) that runs
out in the same tick is consumed (R83, R125), in either order of the tick's parts (R212: decision D9; log 5), and with a latency at the
instant of log 4. -/
def Obligations.RejectedPulseOnlyDisablesDetection : Prop :=
  ∀ (s : State) (i : TickInput) (rest : List Event),
    s.events = .tick i :: rest → s.pstate = .idle → s.riseEn = true → LineRises i s →
    nextCount s < 450 ∨ 510 < nextCount s →
    step s = .next { s with
      riseEn := false, dlArmed := if DeadlineNext s then false else s.dlArmed,
      dlMatched := if DeadlineNext s then false else nextMatched s, cnt := nextCount s, linePrev := true, lineIn := true,
      alarmCondition := i.alarm, reply := i.reply, call := none, events := rest, steps := s.steps + 1 }

/-- R108, R109: a pulse of 471 to 510 ticks, and one of the dead zone where `DEADZONE_ACCEPT` is set (decision D6), is a validated reset
pulse. It clears the context, disables rising-edge detection (decision D7) and arms the presence delay; a watchdog or a deadline of the
same tick changes nothing of it (R88, R212), in either order of the tick's parts (decision D9; log 5). -/
def Obligations.AcceptedPulseStartsPresence : Prop :=
  ∀ (s : State) (i : TickInput) (rest : List Event),
    s.events = .tick i :: rest → s.pstate = .idle → s.riseEn = true → LineRises i s →
    ((470 < nextCount s ∧ nextCount s ≤ 510) ∨
      (s.params.deadzoneAccept = true ∧ 450 ≤ nextCount s ∧ nextCount s ≤ 470)) →
    step s = .next { s with
      pstate := .presenceWait, bitCount := 0#3, currentByte := 0#8, romCommand := 0#8, romMatched := false, idIndex := 0#3,
      readVal := false, txByte := 0#8, cnt := 0, cmp := 30, dlArmed := true, dlMatched := false, riseEn := false,
      linePrev := true, lineIn := true,
      alarmCondition := i.alarm, reply := i.reply, call := none, events := rest, steps := s.steps + 1 }

/-- R109 (decision D6): with `DEADZONE_ACCEPT` false a pulse of 450 to 470 ticks has no effect at all. A wide timeout (decision D5) that
runs out in the same tick is consumed (R83, R125), in either order of the tick's parts (R212: decision D9; log 5), and with a latency
at the instant of log 4. -/
def Obligations.DeadZonePulseHasNoEffect : Prop :=
  ∀ (s : State) (i : TickInput) (rest : List Event),
    s.events = .tick i :: rest → s.pstate = .idle → s.riseEn = true → LineRises i s →
    s.params.deadzoneAccept = false → 450 ≤ nextCount s → nextCount s ≤ 470 →
    step s = .next { s with
      dlArmed := if DeadlineNext s then false else s.dlArmed,
      dlMatched := if DeadlineNext s then false else nextMatched s, cnt := nextCount s, linePrev := true, lineIn := true,
      alarmCondition := i.alarm, reply := i.reply, call := none, events := rest, steps := s.steps + 1 }

/-! ### Deadlines and the watchdog (R80 to R90, R120 to R129) -/

/-- R83, R84, R120: a deadline event consumes its arming and, inside the tolerance window, runs the arm of the present state, exactly at
the compare match (or `DEADLINE_LATENCY` ticks after it, log 4), in a tick with no watchdog event and no edge but a rising one that is
not enabled and so ignored (R110: decision D21). -/
def Obligations.DeadlineRunsTheArmOfItsState : Prop :=
  ∀ (s : State) (i : TickInput) (rest : List Event),
    s.events = .tick i :: rest → DeadlineNext s → WindowNext s → ¬ WatchdogNext s → NoEdgeActs i s →
    step s = andThen
      (deadlineArm { s with
        dlArmed := false, dlMatched := false, cnt := nextCount s, lineIn := lineLevel i.release s,
        alarmCondition := i.alarm, reply := i.reply, call := none, events := rest, steps := s.steps + 1 })
      fun t => .next { t with linePrev := t.lineIn }

/-- R124: the deadline in `PresenceWait` starts the presence pulse, whatever the line does in that tick: an edge of it is ignored (R104,
R110: decision D21), in either order of the tick's parts (decision D9). With a latency the instant is log 4. -/
def Obligations.PresencePulseStarts : Prop :=
  ∀ (s : State) (i : TickInput) (rest : List Event),
    s.events = .tick i :: rest → s.pstate = .presenceWait → DeadlineNext s → WindowNext s → ¬ WatchdogNext s →
    step s = .next { s with
      driveLow := true, pstate := .presencePulse, cnt := 0, cmp := 70, dlArmed := true, dlMatched := false,
      linePrev := lineLevel i.release s, lineIn := lineLevel i.release s,
      alarmCondition := i.alarm, reply := i.reply, call := none, events := rest, steps := s.steps + 1 }

/-- R123: the deadline in `PresencePulse` releases the line and makes the engine ready for the first command bit; the counter runs
on. A rising edge of that tick is ignored (R110: decision D21). With a latency the instant is log 4. -/
def Obligations.PresencePulseEnds : Prop :=
  ∀ (s : State) (i : TickInput) (rest : List Event),
    s.events = .tick i :: rest → s.pstate = .presencePulse → DeadlineNext s → WindowNext s → ¬ WatchdogNext s →
    NoEdgeActs i s →
    step s = .next { s with
      driveLow := false, pstate := .write, cnt := nextCount s, dlArmed := false, dlMatched := false,
      linePrev := lineLevel i.release s, lineIn := lineLevel i.release s,
      alarmCondition := i.alarm, reply := i.reply, call := none, events := rest, steps := s.steps + 1 }

/-- R84, R249: a handler that starts outside the tolerance window is dropped, in every state, and its arming is consumed. With legal
parameters that is only the wide timeout in `Idle`, when the latency carries its handler past a counter wrap (log 4); outside `Idle` it
takes a latency above 10, which is outside its range in R7 (log 19). A rising edge that is not enabled is ignored (R110: decision D21). -/
def Obligations.LateDeadlineIsDropped : Prop :=
  ∀ (s : State) (i : TickInput) (rest : List Event),
    s.events = .tick i :: rest → DeadlineNext s → ¬ WindowNext s → ¬ WatchdogNext s → NoEdgeActs i s →
    step s = .next { s with
      dlArmed := false, dlMatched := false, cnt := nextCount s, linePrev := lineLevel i.release s, lineIn := lineLevel i.release s,
      alarmCondition := i.alarm, reply := i.reply, call := none, events := rest, steps := s.steps + 1 }

/-- R85, R86, R212: when the counter steps onto 500 the engine falls back to `Idle` with its context cleared, from any state, `Idle`
itself among them (decision D29), and nothing else is written (decision D20); in `Idle` a wide timeout that runs out in the same tick is
consumed, and with a latency an arming that is only matched in it stays in force (log 4). With the timer first (decision
D9) a falling edge of that tick is then handled in `Idle`; with the edge first a falling edge handled in `Idle`, `Write` or `Read`
postpones the watchdog (R85; log 5), and one in the presence states is ignored (decision D21). A rising edge that is measured in that
tick is `AcceptedPulseStartsPresence`. -/
def Obligations.WatchdogForcesIdle : Prop :=
  ∀ (s s₀ : State) (i : TickInput) (rest : List Event),
    s.events = .tick i :: rest → WatchdogNext s → (DeadlineNext s → s.pstate = .idle) →
    s₀ = { s with
      pstate := .idle, bitCount := 0#3, currentByte := 0#8, romCommand := 0#8, romMatched := false, idIndex := 0#3,
      readVal := false, txByte := 0#8, cnt := 500, dlArmed := if DeadlineNext s then false else s.dlArmed,
      dlMatched := if DeadlineNext s then false else nextMatched s, linePrev := lineLevel i.release s, lineIn := lineLevel i.release s,
      alarmCondition := i.alarm, reply := i.reply, call := none, events := rest, steps := s.steps + 1 } →
    (NoEdgeActs i s → step s = .next s₀) ∧
    (LineFalls i s → s.params.simulOrder = .timerFirst → step s = .next { s₀ with
      cnt := 0, cmp := s.params.resetTimeoutCmp, dlArmed := true, dlMatched := false, riseEn := true }) ∧
    (LineFalls i s → s.params.simulOrder = .edgeFirst →
      (s.pstate = .presenceWait ∨ s.pstate = .presencePulse → step s = .next s₀) ∧
      (s.pstate = .idle ∨ s.pstate = .write ∨ s.pstate = .read → step s = .next { s with
        cnt := 0, dlArmed := true, dlMatched := false,
        cmp := if s.pstate = .idle then s.params.resetTimeoutCmp else if s.pstate = .write then 40 else 50,
        riseEn := if s.pstate = .idle then true else s.riseEn,
        driveLow := if s.pstate = .read then !s.readVal else s.driveLow, linePrev := false, lineIn := false,
        alarmCondition := i.alarm, reply := i.reply, call := none, events := rest, steps := s.steps + 1 }))

/-- R34 item 6, R211: the watchdog never finds the line driven, nor a presence pulse in progress or to come. -/
def Obligations.WatchdogFindsLineReleased : Prop :=
  ∀ s : State, Inv s → WatchdogNext s →
    s.driveLow = false ∧ s.pstate ≠ .presenceWait ∧ s.pstate ≠ .presencePulse

/-- R87: in a tick the counter counts, or it is zeroed by a falling edge handled in `Idle`, `Write` or `Read`, by an accepted rising
edge in `Idle`, or by the start of the presence pulse; by nothing else. -/
def Obligations.CounterZeroedOnlyAtFivePoints : Prop :=
  ∀ (s t : State) (i : TickInput) (rest : List Event),
    Inv s → s.events = .tick i :: rest → step s = .next t →
    t.cnt = nextCount s ∨
    (t.cnt = 0 ∧
      ((LineFalls i s ∧ (t.pstate = .idle ∨ t.pstate = .write ∨ t.pstate = .read)) ∨
       (LineRises i s ∧ s.pstate = .idle ∧ t.pstate = .presenceWait) ∨
       (s.pstate = .presenceWait ∧ t.pstate = .presencePulse)))

/-- R212 case 2, R243: a falling edge in the tick of a deadline. With the timer first (decision D9) the deadline is served first, with
the low level of that tick as its sample, and the edge is then handled in the state it leaves. With the edge first the edge replaces
the deadline in `Idle`, `Write` and `Read` (log 5), so that the earlier sample is lost; in the presence states the edge is ignored (R104:
decision D21). With a latency the instant is log 4. -/
def Obligations.SlotStartInTheSampleTick : Prop :=
  ∀ (s s₀ : State) (i : TickInput) (rest : List Event),
    s.events = .tick i :: rest → DeadlineNext s → WindowNext s → ¬ WatchdogNext s → LineFalls i s →
    s₀ = { s with
      lineIn := false, alarmCondition := i.alarm, reply := i.reply, call := none, events := rest, steps := s.steps + 1 } →
    ∃ u : State, deadlineArm { s₀ with dlArmed := false, dlMatched := false, cnt := nextCount s } = .next u ∧
      (s.params.simulOrder = .timerFirst →
        (u.pstate = .write → step s = .next { u with cnt := 0, cmp := 40, dlArmed := true, dlMatched := false, linePrev := false }) ∧
        (u.pstate = .read → step s = .next { u with
          driveLow := !u.readVal, cnt := 0, cmp := 50, dlArmed := true, dlMatched := false, linePrev := false }) ∧
        (u.pstate = .idle → step s = .next { u with
          riseEn := true, cnt := 0, cmp := s.params.resetTimeoutCmp, dlArmed := true, dlMatched := false, linePrev := false }) ∧
        (u.pstate = .presencePulse → step s = .next { u with linePrev := false }) ∧
        u.pstate ≠ .presenceWait) ∧
      (s.params.simulOrder = .edgeFirst →
        (s.pstate = .write → step s = .next { s₀ with cnt := 0, cmp := 40, dlArmed := true, dlMatched := false, linePrev := false }) ∧
        (s.pstate = .read → step s = .next { s₀ with
          driveLow := !s.readVal, cnt := 0, cmp := 50, dlArmed := true, dlMatched := false, linePrev := false }) ∧
        (s.pstate = .idle → step s = .next { s₀ with
          riseEn := true, cnt := 0, cmp := s.params.resetTimeoutCmp, dlArmed := true, dlMatched := false, linePrev := false }) ∧
        (s.pstate = .presenceWait ∨ s.pstate = .presencePulse → step s = .next { u with linePrev := false }))

/-- R212 (decision D9; log 5): the order of the two parts of a tick can be told only in a tick that has both a timer event and an
edge. -/
def Obligations.SimulOrderMattersOnlyOnCoincidence : Prop :=
  ∀ (s : State) (i : TickInput),
    (¬ DeadlineNext s ∧ ¬ WatchdogNext s) ∨ LineSteady i s →
    tickWith i { s with params := { s.params with simulOrder := .edgeFirst } } =
      andThen (tickWith i { s with params := { s.params with simulOrder := .timerFirst } })
        fun t => .next { t with params := { t.params with simulOrder := .edgeFirst } }

/-! ### Running the command (R127, R140 to R142) -/

/-- R53, R127, R140, R141: in the deadline of the eighth command slot the byte just completed is decoded and run; in every later
slot of the ROM phase the command in `rom_command` is. The byte is completed from the seven bits in `current_byte` by the shift of R13,
which is decision D12. Around it a step only takes the event, samples the ports, counts, consumes
the arming, releases the line and follows the line's level. With a latency the instant is log 4. A rising edge that is not enabled is
ignored (R110: decision D21). -/
def Obligations.StepRunsTheDecodedCommand : Prop :=
  ∀ (s s₀ : State) (i : TickInput) (rest : List Event),
    s.events = .tick i :: rest → DeadlineNext s → WindowNext s → ¬ WatchdogNext s → NoEdgeActs i s → s.romMatched = false →
    s₀ = { s with
      dlArmed := false, dlMatched := false, driveLow := false, cnt := nextCount s, lineIn := lineLevel i.release s,
      alarmCondition := i.alarm, reply := i.reply, call := none, events := rest, steps := s.steps + 1 } →
    (s.pstate = .write → s.romCommand = 0#8 → s.bitCount = 7#3 → ∀ b : Byte,
      b = BitVec.ofBool (lineLevel i.release s) ++ s.currentByte.extractLsb' 1 7 →
      step s = andThen (exec (decodeByte b) { s₀ with currentByte := b }) fun t => .next { t with linePrev := t.lineIn }) ∧
    (s.pstate = .write ∨ s.pstate = .read → s.romCommand ≠ 0#8 →
      step s = andThen (exec (decodeByte s.romCommand) s₀) fun t => .next { t with linePrev := t.lineIn })

/-- Log 11: from any engine with legal parameters, the step after `withFetchWord` latches and runs exactly the instruction the
decoder reads from that word. The seven bits that `withFetchWord` leaves in `current_byte` stand as the shift of decision D12 has them. -/
def Obligations.FetchedWordIsRunByTheNextStep : Prop :=
  ∀ (s : State) (w : Nat), s.params.Valid →
    decodeTableWord 8 w = some (decodeByte (BitVec.ofNat 8 w)) ∧
    ∃ s₁ t : State,
      noCommandYet s₁ = true ∧ s₁.currentByte = BitVec.ofNat 8 w ∧ s₁.pstate = .write ∧ s₁.romMatched = false ∧ s₁.id = s.id ∧
      exec (decodeByte (BitVec.ofNat 8 w)) s₁ = .next t ∧
      step (s.withFetchWord 8 w) = .next { t with linePrev := t.lineIn }

/-- R140, R141: eight write slots from the start of the command byte assemble it, least significant bit first, and run it. -/
def Obligations.EightSlotsRunTheCommand : Prop :=
  ∀ (s : State) (b : Byte),
    s.pstate = .write → s.romMatched = false → s.romCommand = 0#8 → s.bitCount = 0#3 →
    slotDeadlines (wireBits b) s =
      exec (decodeByte b) { s with currentByte := b, bitCount := 7#3, lineIn := b.getLsbD 7, driveLow := false }

/-! ### First steps of the commands (R142) -/

/-- R163: Skip ROM selects the device at its eighth bit and calls the application; nothing else is written. -/
def Obligations.SkipRomSelectsAtTheLatch : Prop :=
  ∀ s : State, s.romCommand = 0#8 →
    exec .skipRom s = .next { s with
      bitCount := 0#3, romCommand := s.currentByte, idIndex := 7#3, romMatched := true, call := some .onSelected,
      txByte := s.reply.staged.getD s.txByte }

/-- R142, R150: the first step of Match ROM consumes no identity bit (decision D13). -/
def Obligations.MatchRomWaitsAtTheLatch : Prop :=
  ∀ s : State, s.romCommand = 0#8 →
    exec .matchRom s = .next { s with bitCount := 0#3, romCommand := s.currentByte, idIndex := 7#3 }

/-- R142, R144, R155, R165: Search ROM and Read ROM load wire bit 0, bit 0 of `id[7]`, and turn to `Read` (decision D13). -/
def Obligations.SearchAndReadRomLoadTheFirstBit : Prop :=
  ∀ (s : State) (i : Instr), i = .searchRom ∨ i = .readRom → s.romCommand = 0#8 →
    exec i s = .next { s with
      bitCount := 0#3, romCommand := s.currentByte, idIndex := 7#3, readVal := s.id[7].getLsbD 0, pstate := .read }

/-- R160: Alarm Search does as Search ROM if the alarm flag is set at the eighth command bit (decision D17), else it deselects. -/
def Obligations.AlarmSearchIsGatedAtTheLatch : Prop :=
  ∀ s : State, s.romCommand = 0#8 →
    (s.alarmCondition = true → exec .alarmSearch s = .next { s with
      bitCount := 0#3, romCommand := s.currentByte, idIndex := 7#3, readVal := s.id[7].getLsbD 0, pstate := .read }) ∧
    (s.alarmCondition = false → exec .alarmSearch s = .next { s with
      bitCount := 0#3, romCommand := s.currentByte, idIndex := 7#3, pstate := .idle })

/-- R168: an unknown command deselects at its eighth bit and stays readable in `rom_command`. -/
def Obligations.UnknownCommandDeselects : Prop :=
  ∀ (s : State) (v : Byte), s.romCommand = 0#8 →
    exec (.unknown v) s = .next { s with
      bitCount := 0#3, romCommand := s.currentByte, idIndex := 7#3, pstate := .idle }

/-! ### Later bits of the commands -/

/-- R150: one operand bit of Match ROM in `Write`. -/
def Obligations.MatchRomComparesOneBit : Prop :=
  ∀ s : State, s.romCommand ≠ 0#8 → s.pstate = .write →
    (s.lineIn ≠ idWireBit s.id (wirePosition s) → exec .matchRom s = .next { s with pstate := .idle }) ∧
    (s.lineIn = idWireBit s.id (wirePosition s) →
      (s.bitCount ≠ 7#3 → exec .matchRom s = .next { s with bitCount := s.bitCount + 1#3 }) ∧
      (s.bitCount = 7#3 → s.idIndex ≠ 0#3 → exec .matchRom s = .next { s with bitCount := 0#3, idIndex := s.idIndex - 1#3 }) ∧
      (s.bitCount = 7#3 → s.idIndex = 0#3 → exec .matchRom s = .next { s with
        bitCount := 0#3, romMatched := true, call := some .onSelected, txByte := s.reply.staged.getD s.txByte }))

/-- R155, and R160 for Alarm Search at any value of the flag (decision D17): the direction bit of a search in `Write` (the state after
selection is decision D18). -/
def Obligations.SearchComparesTheDirection : Prop :=
  ∀ (s : State) (i : Instr), i = .searchRom ∨ i = .alarmSearch → s.romCommand ≠ 0#8 → s.pstate = .write →
    (s.lineIn ≠ s.readVal → exec i s = .next { s with pstate := .idle }) ∧
    (s.lineIn = s.readVal → wirePosition s = 63 → exec i s = .next { s with
      bitCount := 0#3, romMatched := true, call := some .onSelected, txByte := s.reply.staged.getD s.txByte }) ∧
    (s.lineIn = s.readVal → wirePosition s < 63 → exec i s = .next { s with
      bitCount := s.bitCount + 1#3, idIndex := if s.bitCount = 7#3 then s.idIndex - 1#3 else s.idIndex,
      readVal := idWireBit s.id (wirePosition s + 1), pstate := .read })

/-- R156, and R160 for Alarm Search at any value of the flag (decision D17): in a half-slot of a search triple in `Read`, `read_val` is
complemented, and when the complement is the true identity bit the engine turns to `Write`. -/
def Obligations.SearchHalfSlotComplements : Prop :=
  ∀ (s : State) (i : Instr), i = .searchRom ∨ i = .alarmSearch → s.romCommand ≠ 0#8 → s.pstate = .read →
    (s.readVal = idWireBit s.id (wirePosition s) → exec i s = .next { s with readVal := !s.readVal }) ∧
    (s.readVal ≠ idWireBit s.id (wirePosition s) → exec i s = .next { s with readVal := !s.readVal, pstate := .write })

/-- R157, and R160 for Alarm Search at any value of the flag (decision D17): two half-slots send the identity bit and its complement and
leave the engine awaiting the direction, with everything else as it was. -/
def Obligations.SearchTripleSendsBitAndComplement : Prop :=
  ∀ (s : State) (l₁ l₂ : Bool), s.pstate = .read → s.romMatched = false → s.romCommand ∈ searchCommands →
    s.readVal = idBit s →
    sentBits 2 s = [idBit s, !idBit s] ∧
    slotDeadlines [l₁, l₂] s = .next { s with pstate := .write, lineIn := l₂, driveLow := false }

/-- R165 (the state after selection is decision D18): one bit of Read ROM in `Read`. -/
def Obligations.ReadRomSendsOneBit : Prop :=
  ∀ s : State, s.romCommand ≠ 0#8 → s.pstate = .read →
    (wirePosition s = 63 → exec .readRom s = .next { s with
      bitCount := 0#3, romMatched := true, call := some .onSelected, txByte := s.reply.staged.getD s.txByte, pstate := .write }) ∧
    (wirePosition s < 63 → exec .readRom s = .next { s with
      bitCount := s.bitCount + 1#3, idIndex := if s.bitCount = 7#3 then s.idIndex - 1#3 else s.idIndex,
      readVal := idWireBit s.id (wirePosition s + 1) })

/-- R169, R170 (decision D19): the combinations of command and state that no run reaches deselect: a command met where it has nothing to
do, and a bit of the command byte met in `Read`. -/
def Obligations.UnreachableCombinationsDeselect : Prop :=
  (∀ s : State, s.romCommand ≠ 0#8 →
    exec .skipRom s = .next { s with pstate := .idle } ∧
    (∀ v : Byte, exec (.unknown v) s = .next { s with pstate := .idle }) ∧
    (s.pstate ≠ .write → exec .matchRom s = .next { s with pstate := .idle }) ∧
    (s.pstate ≠ .read → exec .readRom s = .next { s with pstate := .idle })) ∧
  ∀ s : State, s.romCommand = 0#8 → s.romMatched = false → s.pstate = .read →
    deadlineArm s = .next { s with driveLow := false, pstate := .idle }

/-- The frame of every command, first step and later bits: the byte being assembled, the timer, the edge detector, the line, the
ports, the parameters and every bit of the identity stay; `rom_command` is written by the latch only; `tx_byte` is written only by
the application in the call that a selection makes. -/
def Obligations.CommandsKeepEverythingElse : Prop :=
  ∀ (i : Instr) (s t : State), exec i s = .next t →
    t.currentByte = s.currentByte ∧ t.cnt = s.cnt ∧ t.cmp = s.cmp ∧ t.dlArmed = s.dlArmed ∧ t.dlMatched = s.dlMatched ∧
    t.riseEn = s.riseEn ∧ t.linePrev = s.linePrev ∧ t.driveLow = s.driveLow ∧ t.lineIn = s.lineIn ∧
    t.alarmCondition = s.alarmCondition ∧ t.reply = s.reply ∧ t.params = s.params ∧ t.events = s.events ∧ t.steps = s.steps ∧
    (∀ j k : Cursor, idRead t.id j k = idRead s.id j k) ∧
    (t.romCommand = s.romCommand ∨ (s.romCommand = 0#8 ∧ t.romCommand = s.currentByte)) ∧
    ((t.romMatched = s.romMatched ∧ t.txByte = s.txByte ∧ t.call = s.call) ∨
      (t.romMatched = true ∧ t.txByte = s.reply.staged.getD s.txByte ∧ t.call = some .onSelected))

/-! ### Whole commands -/

/-- R150, S3 of 95_test_vectors.md: over its 64 operand slots Match ROM selects if and only if all 64 bits are the identity in wire
order; otherwise the device is in `Idle`. -/
def Obligations.MatchRomSelectsIffIdentityMatches : Prop :=
  ∀ (s : State) (bits : List Bool), bits.length = 64 →
    s.pstate = .write → s.romMatched = false → s.romCommand = 0x55#8 → s.idIndex = 7#3 → s.bitCount = 0#3 →
    ∃ t : State, slotDeadlines bits s = .next t ∧
      (bits = idWireBits s.id → t.romMatched = true ∧ t.pstate = .write ∧ t.bitCount = 0#3 ∧ t.call = some .onSelected) ∧
      (bits ≠ idWireBits s.id → t.romMatched = false ∧ t.pstate = .idle)

/-- R150: the first mismatched bit deselects, and the cursor stays on it. -/
def Obligations.MatchRomStopsAtTheFirstMismatch : Prop :=
  ∀ (s : State) (n : Nat), n < 64 →
    s.pstate = .write → s.romMatched = false → s.romCommand = 0x55#8 → s.idIndex = 7#3 → s.bitCount = 0#3 →
    ∃ t : State, slotDeadlines ((idWireBits s.id).take n ++ [!idWireBit s.id n]) s = .next t ∧
      t.pstate = .idle ∧ t.romMatched = false ∧ wirePosition t = n

/-- R155 to R158, and R160 for Alarm Search at any later value of the flag (decision D17): a search, plain or alarm, ends with the device
selected if and only if the 64 directions are its identity in wire order; the levels in the read slots do not matter. The state after
selection is decision D18. -/
def Obligations.SearchSelectsIffDirectionsMatch : Prop :=
  ∀ (s : State) (triples : List (Bool × Bool × Bool)), triples.length = 64 →
    s.pstate = .read → s.romMatched = false → s.romCommand ∈ searchCommands → s.idIndex = 7#3 → s.bitCount = 0#3 →
    s.readVal = idBit s →
    ∃ t : State, slotDeadlines (triples.flatMap fun x => [x.1, x.2.1, x.2.2]) s = .next t ∧
      (triples.map (fun x => x.2.2) = idWireBits s.id →
        t.romMatched = true ∧ t.pstate = .write ∧ t.bitCount = 0#3 ∧ t.call = some .onSelected) ∧
      (triples.map (fun x => x.2.2) ≠ idWireBits s.id → t.romMatched = false ∧ t.pstate = .idle)

/-- R165, S4 of 95_test_vectors.md: Read ROM sends exactly the 64 identity bits in wire order, then selects. -/
def Obligations.ReadRomSendsTheIdentity : Prop :=
  ∀ (s : State) (levels : List Bool), levels.length = 64 →
    s.pstate = .read → s.romMatched = false → s.romCommand = 0x33#8 → s.idIndex = 7#3 → s.bitCount = 0#3 →
    s.readVal = idBit s →
    sentBits 64 s = idWireBits s.id ∧
    ∃ t : State, slotDeadlines levels s = .next t ∧
      t.romMatched = true ∧ t.pstate = .write ∧ t.bitCount = 0#3 ∧ t.call = some .onSelected

/-! ### The bridge and the application (R180 to R194) -/

/-- R180: eight write slots of a selected engine deliver the byte; the engine turns to `Read`, with bit 0 of `tx_byte` as the
callback left it, if and only if the application asks for it. -/
def Obligations.BridgeDeliversAReceivedByte : Prop :=
  ∀ (s : State) (b tx : Byte), s.pstate = .write → s.romMatched = true → s.bitCount = 0#3 →
    tx = s.reply.staged.getD s.txByte →
    slotDeadlines (wireBits b) s = .next { s with
      currentByte := b, bitCount := 0#3, lineIn := b.getLsbD 7, driveLow := false, call := some (.onByteReceived b),
      txByte := tx,
      pstate := if s.reply.wantTransmit then .read else .write,
      readVal := if s.reply.wantTransmit then tx.getLsbD 0 else s.readVal }

/-- R181, R183: eight read slots of a selected engine send `tx_byte` least significant bit first, then call the application, and the
next bit is bit 0 of what it staged, or of the same byte again. -/
def Obligations.BridgeSendsTheStagedByte : Prop :=
  ∀ (s : State) (levels : List Bool) (tx : Byte), levels.length = 8 →
    s.pstate = .read → s.romMatched = true → s.bitCount = 0#3 → s.readVal = s.txByte.getLsbD 0 →
    tx = s.reply.staged.getD s.txByte →
    sentBits 8 s = wireBits s.txByte ∧
    ∃ t : State, slotDeadlines levels s = .next t ∧
      t = { s with
        bitCount := 0#3, driveLow := false, lineIn := t.lineIn, call := some .onByteSent, txByte := tx,
        readVal := tx.getLsbD 0 }

/-- R182 (decision D30): a selected engine that sends goes on sending until the watchdog. -/
def Obligations.TransmissionEndsOnlyByWatchdog : Prop :=
  ∀ (s t : State) (i : TickInput) (rest : List Event),
    Inv s → s.events = .tick i :: rest → s.pstate = .read → s.romMatched = true → step s = .next t →
    (t.pstate = .read ∧ t.romMatched = true) ∨ (WatchdogNext s ∧ t.pstate = .idle ∧ ContextClear t)

/-- R15, R146, R191: the application is told of a selection in the tick in which it happens, and of none while the device is selected
already: at most once in a transaction (C11). A selected device loses its selection only with its whole context. -/
def Obligations.SelectionIsReportedOnce : Prop :=
  ∀ (s t : State) (i : TickInput) (rest : List Event),
    Inv s → s.events = .tick i :: rest → step s = .next t →
    (s.romMatched = false → (t.romMatched = true ↔ t.call = some .onSelected)) ∧
    (s.romMatched = true → t.call ≠ some .onSelected ∧ (t.romMatched = false → ContextClear t))

/-- R20, R190 to R194 (log 7): what the application would answer matters only if it is called, and which call is made does not depend
on its answer. `on_selected` lets it set `tx_byte` and nothing else (R191); `on_byte_sent` also the next bit sent, which is one of `tx_byte`
(R194, R181); only `on_byte_received` has a result, and only it lets the application choose `pstate` (R192, R180). `drive_low` and `cmp`
follow `read_val` and `pstate` if a slot starts in that same tick (R102, R103, R212). Everything else is the same. -/
def Obligations.ApplicationActsOnlyThroughACall : Prop :=
  ∀ (s t t' : State) (i : TickInput) (r : AppReply),
    tickWith i s = .next t → tickWith { i with reply := r } s = .next t' →
    t'.call = t.call ∧
    (t.call = none → t' = { t with reply := r }) ∧
    (t.call = some .onSelected → t' = { t with reply := r, txByte := t'.txByte }) ∧
    (t.call = some .onByteSent → t' = { t with
      reply := r, txByte := t'.txByte, readVal := t'.readVal, driveLow := t'.driveLow }) ∧
    (∀ b : Byte, t.call = some (.onByteReceived b) → t' = { t with
      reply := r, txByte := t'.txByte, readVal := t'.readVal, driveLow := t'.driveLow, cmp := t'.cmp, pstate := t'.pstate })

/-- R190: a tick coupled to an application is a tick with the application's own answer to the call the engine makes in it, and the
application's state moves only in a call. -/
def Obligations.CoupledTickAnswersItsOwnCall : Prop :=
  ∀ (σ : Type) (a : App σ) (release alarm : Bool) (s : State) (x : σ),
    (∃ t : State, t.call = none ∧ a.tick release alarm s x = (.next t, x) ∧
      tickWith { release := release, alarm := alarm, reply := AppReply.silent } s = .next t) ∨
    (∃ (c : AppCall) (t : State), t.call = some c ∧ a.tick release alarm s x = (.next t, (a.answer x c).1) ∧
      tickWith { release := release, alarm := alarm, reply := (a.answer x c).2 } s = .next t)

/-! ### The whole machine -/

/-- R25, R41, R53: no step changes the identity, any bit of it, or the parameters. -/
def Obligations.IdentityIsNeverWritten : Prop :=
  ∀ s t : State, step s = .next t → t.id = s.id ∧ t.params = s.params ∧ ∀ j k : Cursor, idRead t.id j k = idRead s.id j k

/-- R129: in a tick `pstate` makes one of the transitions of the table, or none. -/
def Obligations.PstateMovesOnlyAsTabled : Prop :=
  ∀ (s t : State) (i : TickInput) (rest : List Event),
    Inv s → s.events = .tick i :: rest → step s = .next t → (s.pstate, t.pstate) ∈ pstateMoves

/-- S2 of 95_test_vectors.md, R106 to R109: a low pulse of `w` ticks seen from `Idle` starts a transaction if and only if
`470 < w <= 510`, or the dead zone is accepted (decision D6) and `450 <= w <= 470`; otherwise the engine stays in `Idle`. With the edge
first, `w = 500` rests on log 5: the watchdog is postponed by the accepted edge. -/
def Obligations.ResetPulseWidthDecides : Prop :=
  ∀ (s : State) (w : Nat) (rest : List Event),
    s.params.Valid → s.pstate = .idle → s.linePrev = true → s.driveLow = false → 0 < w → w < 2 ^ s.params.cntWidth →
    s.events = heldTicks false w ++ heldTicks true 1 ++ rest →
    ∃ t : State, runSteps (w + 1) s = .next t ∧
      ((470 < w ∧ w ≤ 510) ∨ (s.params.deadzoneAccept = true ∧ 450 ≤ w ∧ w ≤ 470) →
        t.pstate = .presenceWait ∧ ContextClear t) ∧
      (¬ ((470 < w ∧ w ≤ 510) ∨ (s.params.deadzoneAccept = true ∧ 450 ≤ w ∧ w ≤ 470)) → t.pstate = .idle)

/-- R111: after an accepted pulse, with no latency and nobody else pulling, the engine waits 30 ticks, drives the line for 70, and is
in `Write` at tick 100; the line is low in ticks 31 to 100 (the line's feedback is decision D22, the edges it causes are ignored by
decision D21). -/
def Obligations.PresenceTimeline : Prop :=
  ∀ (s : State) (n : Nat) (rest : List Event),
    s.params.Valid → s.params.deadlineLatency = 0 → s.pstate = .presenceWait → s.cnt = 0 → s.cmp = 30 → s.dlArmed = true →
    s.driveLow = false → s.linePrev = true → n ≤ 100 → s.events = heldTicks true n ++ rest →
    ∃ t : State, runSteps n s = .next t ∧
      t.pstate = (if n < 30 then .presenceWait else if n < 100 then .presencePulse else .write) ∧
      t.driveLow = decide (30 ≤ n ∧ n < 100) ∧
      t.linePrev = decide (n ≤ 30)

/-- S7 of 95_test_vectors.md, R85, R86, R232: from any transaction state outside presence, on a line that keeps one level, the engine is
in `Idle` with its context zeroed when the counter reaches 500, whatever the application and the alarm flag do. The level may be low:
R87 counts from the last edge acted on, so a line held low is as silent as a high one. The counter stays 500 (decision D20), and from `Idle` the
watchdog clears the context too (decision D29). -/
def Obligations.SilenceEndsTheTransaction : Prop :=
  ∀ (s : State) (level : Bool) (inputs : List TickInput) (rest : List Event),
    Inv s → s.pstate ≠ .presenceWait → s.pstate ≠ .presencePulse → s.linePrev = level → (level = true → s.driveLow = false) →
    s.cnt < 500 → inputs.length = 500 - s.cnt → (∀ i ∈ inputs, i.release = level) → s.events = inputs.map Event.tick ++ rest →
    ∃ t : State, runSteps (500 - s.cnt) s = .next t ∧ t.pstate = .idle ∧ ContextClear t ∧ t.driveLow = false ∧ t.cnt = 500

/-- R73, R102, R121 (the durations are decision D24): one write slot of the master, with no latency, hands its bit to the dispatcher
once, with the alarm level and the application's answer of its 40th tick after the falling one, and leaves the engine 69 ticks past
the slot's start with no deadline pending. So the latch slot of a command and the turnaround slot of the bridge are one deadline too. -/
def Obligations.WriteSlotDeliversItsBit : Prop :=
  ∀ (s : State) (b : Bool) (inputs : List TickInput) (i₄₀ i₆₉ : TickInput) (rest : List Event),
    Inv s → s.params.deadlineLatency = 0 → s.pstate = .write → s.linePrev = true → s.dlArmed = false → s.cnt < 499 →
    inputs.map (fun i => i.release) = (Stimulus.writeSlot b).levels → inputs[40]? = some i₄₀ → inputs[69]? = some i₆₉ →
    s.events = inputs.map Event.tick ++ rest →
    ∃ u : State,
      deadlineArm { s with
        lineIn := b, alarmCondition := i₄₀.alarm, reply := i₄₀.reply, call := none, cnt := 40, cmp := 40, linePrev := b } =
        .next u ∧
      runSteps 41 s = .next { u with events := (inputs.drop 41).map Event.tick ++ rest, steps := s.steps + 41 } ∧
      runSteps 70 s = .next { u with
        alarmCondition := i₆₉.alarm, reply := i₆₉.reply, call := none, cnt := 69, lineIn := true, linePrev := true,
        events := rest, steps := s.steps + 70 }

/-- R74, R103, R122 (the durations are decision D24): one read slot of the master, with no latency, hands the bit the engine sends to
the dispatcher once, with the alarm level and the application's answer of its 50th tick after the falling one, and leaves the engine
69 ticks past the slot's start with no deadline pending. -/
def Obligations.ReadSlotDispatchesTheSentBit : Prop :=
  ∀ (s : State) (inputs : List TickInput) (i₅₀ i₆₉ : TickInput) (rest : List Event),
    Inv s → s.params.deadlineLatency = 0 → s.pstate = .read → s.linePrev = true → s.driveLow = false → s.dlArmed = false →
    s.cnt < 499 → inputs.map (fun i => i.release) = Stimulus.readSlot.levels → inputs[50]? = some i₅₀ → inputs[69]? = some i₆₉ →
    s.events = inputs.map Event.tick ++ rest →
    ∃ u : State,
      deadlineArm { s with
        lineIn := s.readVal, alarmCondition := i₅₀.alarm, reply := i₅₀.reply, call := none, cnt := 50, cmp := 50,
        linePrev := s.readVal } = .next u ∧
      runSteps 51 s = .next { u with events := (inputs.drop 51).map Event.tick ++ rest, steps := s.steps + 51 } ∧
      runSteps 70 s = .next { u with
        alarmCondition := i₆₉.alarm, reply := i₆₉.reply, call := none, cnt := 69, lineIn := true, linePrev := true,
        events := rest, steps := s.steps + 70 }

/-- R103, R122, R74 (the durations are decision D24), vector 2.13: a read slot of 70 ticks is `L51 H19` on the line when the engine
sends a 0 and `L6 H64` when it sends a 1 (the line's feedback is decision D22), whatever the alarm flag and the application do. -/
def Obligations.ReadSlotWaveform : Prop :=
  ∀ (s : State) (inputs : List TickInput) (rest : List Event),
    Inv s → s.params.deadlineLatency = 0 → s.pstate = .read → s.linePrev = true → s.driveLow = false → s.dlArmed = false →
    s.cnt < 499 → inputs.map (fun i => i.release) = Stimulus.readSlot.levels → s.events = inputs.map Event.tick ++ rest →
    (s.readVal = false → waveform 70 s = hold false 51 ++ hold true 19) ∧
    (s.readVal = true → waveform 70 s = hold false 6 ++ hold true 64) ∧
    slotValue (waveform 70 s) = s.readVal

/-- R222 (decision D22): every engine on a line samples the same level: high if and only if the master releases the line and no
engine pulled it low in the tick before. -/
def Obligations.EnginesShareTheWiredAndLine : Prop :=
  ∀ (release : Bool) (engines : List (State × Bool × AppReply)),
    (busLevel release (engines.map fun e => e.1) = true ↔ release = true ∧ ∀ e ∈ engines, e.1.driveLow = false) ∧
    ∀ r ∈ busTick release engines, ∃ t : State, r = .next t ∧ t.lineIn = busLevel release (engines.map fun e => e.1)
end

