-- ==== Sys2Proof/Laws/State.lean ====
section
/-! SUPPORT. What each update of State leaves in each field: one lemma per field per update, so that no later proof unfolds a record. -/

namespace Sys2Proof.Machine

variable (s : State)

/-! ### `shiftIn` -/

@[simp] theorem shiftIn_pstate (b : Bool) : (shiftIn b s).pstate = s.pstate := rfl
@[simp] theorem shiftIn_bitCount (b : Bool) : (shiftIn b s).bitCount = s.bitCount := rfl
@[simp] theorem shiftIn_currentByte (b : Bool) : (shiftIn b s).currentByte = (BitVec.ofBool b ++ s.currentByte.extractLsb' 1 7 : BitVec 8) := rfl
@[simp] theorem shiftIn_romCommand (b : Bool) : (shiftIn b s).romCommand = s.romCommand := rfl
@[simp] theorem shiftIn_romMatched (b : Bool) : (shiftIn b s).romMatched = s.romMatched := rfl
@[simp] theorem shiftIn_idIndex (b : Bool) : (shiftIn b s).idIndex = s.idIndex := rfl
@[simp] theorem shiftIn_readVal (b : Bool) : (shiftIn b s).readVal = s.readVal := rfl
@[simp] theorem shiftIn_txByte (b : Bool) : (shiftIn b s).txByte = s.txByte := rfl
@[simp] theorem shiftIn_cnt (b : Bool) : (shiftIn b s).cnt = s.cnt := rfl
@[simp] theorem shiftIn_cmp (b : Bool) : (shiftIn b s).cmp = s.cmp := rfl
@[simp] theorem shiftIn_dlArmed (b : Bool) : (shiftIn b s).dlArmed = s.dlArmed := rfl
@[simp] theorem shiftIn_riseEn (b : Bool) : (shiftIn b s).riseEn = s.riseEn := rfl
@[simp] theorem shiftIn_linePrev (b : Bool) : (shiftIn b s).linePrev = s.linePrev := rfl
@[simp] theorem shiftIn_driveLow (b : Bool) : (shiftIn b s).driveLow = s.driveLow := rfl
@[simp] theorem shiftIn_id (b : Bool) : (shiftIn b s).id = s.id := rfl
@[simp] theorem shiftIn_lineIn (b : Bool) : (shiftIn b s).lineIn = s.lineIn := rfl
@[simp] theorem shiftIn_alarmCondition (b : Bool) : (shiftIn b s).alarmCondition = s.alarmCondition := rfl
@[simp] theorem shiftIn_reply (b : Bool) : (shiftIn b s).reply = s.reply := rfl
@[simp] theorem shiftIn_call (b : Bool) : (shiftIn b s).call = s.call := rfl
@[simp] theorem shiftIn_params (b : Bool) : (shiftIn b s).params = s.params := rfl
@[simp] theorem shiftIn_dlMatched (b : Bool) : (shiftIn b s).dlMatched = s.dlMatched := rfl
@[simp] theorem shiftIn_events (b : Bool) : (shiftIn b s).events = s.events := rfl
@[simp] theorem shiftIn_steps (b : Bool) : (shiftIn b s).steps = s.steps := rfl

/-! ### `nextBit` -/

@[simp] theorem nextBit_pstate : (nextBit s).pstate = s.pstate := rfl
@[simp] theorem nextBit_bitCount : (nextBit s).bitCount = s.bitCount + 1#3 := rfl
@[simp] theorem nextBit_currentByte : (nextBit s).currentByte = s.currentByte := rfl
@[simp] theorem nextBit_romCommand : (nextBit s).romCommand = s.romCommand := rfl
@[simp] theorem nextBit_romMatched : (nextBit s).romMatched = s.romMatched := rfl
@[simp] theorem nextBit_idIndex : (nextBit s).idIndex = s.idIndex := rfl
@[simp] theorem nextBit_readVal : (nextBit s).readVal = s.readVal := rfl
@[simp] theorem nextBit_txByte : (nextBit s).txByte = s.txByte := rfl
@[simp] theorem nextBit_cnt : (nextBit s).cnt = s.cnt := rfl
@[simp] theorem nextBit_cmp : (nextBit s).cmp = s.cmp := rfl
@[simp] theorem nextBit_dlArmed : (nextBit s).dlArmed = s.dlArmed := rfl
@[simp] theorem nextBit_riseEn : (nextBit s).riseEn = s.riseEn := rfl
@[simp] theorem nextBit_linePrev : (nextBit s).linePrev = s.linePrev := rfl
@[simp] theorem nextBit_driveLow : (nextBit s).driveLow = s.driveLow := rfl
@[simp] theorem nextBit_id : (nextBit s).id = s.id := rfl
@[simp] theorem nextBit_lineIn : (nextBit s).lineIn = s.lineIn := rfl
@[simp] theorem nextBit_alarmCondition : (nextBit s).alarmCondition = s.alarmCondition := rfl
@[simp] theorem nextBit_reply : (nextBit s).reply = s.reply := rfl
@[simp] theorem nextBit_call : (nextBit s).call = s.call := rfl
@[simp] theorem nextBit_params : (nextBit s).params = s.params := rfl
@[simp] theorem nextBit_dlMatched : (nextBit s).dlMatched = s.dlMatched := rfl
@[simp] theorem nextBit_events : (nextBit s).events = s.events := rfl
@[simp] theorem nextBit_steps : (nextBit s).steps = s.steps := rfl

/-! ### `firstBit` -/

@[simp] theorem firstBit_pstate : (firstBit s).pstate = s.pstate := rfl
@[simp] theorem firstBit_bitCount : (firstBit s).bitCount = 0#3 := rfl
@[simp] theorem firstBit_currentByte : (firstBit s).currentByte = s.currentByte := rfl
@[simp] theorem firstBit_romCommand : (firstBit s).romCommand = s.romCommand := rfl
@[simp] theorem firstBit_romMatched : (firstBit s).romMatched = s.romMatched := rfl
@[simp] theorem firstBit_idIndex : (firstBit s).idIndex = s.idIndex := rfl
@[simp] theorem firstBit_readVal : (firstBit s).readVal = s.readVal := rfl
@[simp] theorem firstBit_txByte : (firstBit s).txByte = s.txByte := rfl
@[simp] theorem firstBit_cnt : (firstBit s).cnt = s.cnt := rfl
@[simp] theorem firstBit_cmp : (firstBit s).cmp = s.cmp := rfl
@[simp] theorem firstBit_dlArmed : (firstBit s).dlArmed = s.dlArmed := rfl
@[simp] theorem firstBit_riseEn : (firstBit s).riseEn = s.riseEn := rfl
@[simp] theorem firstBit_linePrev : (firstBit s).linePrev = s.linePrev := rfl
@[simp] theorem firstBit_driveLow : (firstBit s).driveLow = s.driveLow := rfl
@[simp] theorem firstBit_id : (firstBit s).id = s.id := rfl
@[simp] theorem firstBit_lineIn : (firstBit s).lineIn = s.lineIn := rfl
@[simp] theorem firstBit_alarmCondition : (firstBit s).alarmCondition = s.alarmCondition := rfl
@[simp] theorem firstBit_reply : (firstBit s).reply = s.reply := rfl
@[simp] theorem firstBit_call : (firstBit s).call = s.call := rfl
@[simp] theorem firstBit_params : (firstBit s).params = s.params := rfl
@[simp] theorem firstBit_dlMatched : (firstBit s).dlMatched = s.dlMatched := rfl
@[simp] theorem firstBit_events : (firstBit s).events = s.events := rfl
@[simp] theorem firstBit_steps : (firstBit s).steps = s.steps := rfl

/-! ### `clearContext` -/

@[simp] theorem clearContext_pstate : (clearContext s).pstate = s.pstate := rfl
@[simp] theorem clearContext_bitCount : (clearContext s).bitCount = 0#3 := rfl
@[simp] theorem clearContext_currentByte : (clearContext s).currentByte = 0#8 := rfl
@[simp] theorem clearContext_romCommand : (clearContext s).romCommand = 0#8 := rfl
@[simp] theorem clearContext_romMatched : (clearContext s).romMatched = false := rfl
@[simp] theorem clearContext_idIndex : (clearContext s).idIndex = 0#3 := rfl
@[simp] theorem clearContext_readVal : (clearContext s).readVal = false := rfl
@[simp] theorem clearContext_txByte : (clearContext s).txByte = 0#8 := rfl
@[simp] theorem clearContext_cnt : (clearContext s).cnt = s.cnt := rfl
@[simp] theorem clearContext_cmp : (clearContext s).cmp = s.cmp := rfl
@[simp] theorem clearContext_dlArmed : (clearContext s).dlArmed = s.dlArmed := rfl
@[simp] theorem clearContext_riseEn : (clearContext s).riseEn = s.riseEn := rfl
@[simp] theorem clearContext_linePrev : (clearContext s).linePrev = s.linePrev := rfl
@[simp] theorem clearContext_driveLow : (clearContext s).driveLow = s.driveLow := rfl
@[simp] theorem clearContext_id : (clearContext s).id = s.id := rfl
@[simp] theorem clearContext_lineIn : (clearContext s).lineIn = s.lineIn := rfl
@[simp] theorem clearContext_alarmCondition : (clearContext s).alarmCondition = s.alarmCondition := rfl
@[simp] theorem clearContext_reply : (clearContext s).reply = s.reply := rfl
@[simp] theorem clearContext_call : (clearContext s).call = s.call := rfl
@[simp] theorem clearContext_params : (clearContext s).params = s.params := rfl
@[simp] theorem clearContext_dlMatched : (clearContext s).dlMatched = s.dlMatched := rfl
@[simp] theorem clearContext_events : (clearContext s).events = s.events := rfl
@[simp] theorem clearContext_steps : (clearContext s).steps = s.steps := rfl

/-! ### `scheduleAfter` -/

@[simp] theorem scheduleAfter_pstate (us : Nat) : (scheduleAfter us s).pstate = s.pstate := rfl
@[simp] theorem scheduleAfter_bitCount (us : Nat) : (scheduleAfter us s).bitCount = s.bitCount := rfl
@[simp] theorem scheduleAfter_currentByte (us : Nat) : (scheduleAfter us s).currentByte = s.currentByte := rfl
@[simp] theorem scheduleAfter_romCommand (us : Nat) : (scheduleAfter us s).romCommand = s.romCommand := rfl
@[simp] theorem scheduleAfter_romMatched (us : Nat) : (scheduleAfter us s).romMatched = s.romMatched := rfl
@[simp] theorem scheduleAfter_idIndex (us : Nat) : (scheduleAfter us s).idIndex = s.idIndex := rfl
@[simp] theorem scheduleAfter_readVal (us : Nat) : (scheduleAfter us s).readVal = s.readVal := rfl
@[simp] theorem scheduleAfter_txByte (us : Nat) : (scheduleAfter us s).txByte = s.txByte := rfl
@[simp] theorem scheduleAfter_cnt (us : Nat) : (scheduleAfter us s).cnt = 0 := rfl
@[simp] theorem scheduleAfter_cmp (us : Nat) : (scheduleAfter us s).cmp = us := rfl
@[simp] theorem scheduleAfter_dlArmed (us : Nat) : (scheduleAfter us s).dlArmed = true := rfl
@[simp] theorem scheduleAfter_riseEn (us : Nat) : (scheduleAfter us s).riseEn = s.riseEn := rfl
@[simp] theorem scheduleAfter_linePrev (us : Nat) : (scheduleAfter us s).linePrev = s.linePrev := rfl
@[simp] theorem scheduleAfter_driveLow (us : Nat) : (scheduleAfter us s).driveLow = s.driveLow := rfl
@[simp] theorem scheduleAfter_id (us : Nat) : (scheduleAfter us s).id = s.id := rfl
@[simp] theorem scheduleAfter_lineIn (us : Nat) : (scheduleAfter us s).lineIn = s.lineIn := rfl
@[simp] theorem scheduleAfter_alarmCondition (us : Nat) : (scheduleAfter us s).alarmCondition = s.alarmCondition := rfl
@[simp] theorem scheduleAfter_reply (us : Nat) : (scheduleAfter us s).reply = s.reply := rfl
@[simp] theorem scheduleAfter_call (us : Nat) : (scheduleAfter us s).call = s.call := rfl
@[simp] theorem scheduleAfter_params (us : Nat) : (scheduleAfter us s).params = s.params := rfl
@[simp] theorem scheduleAfter_dlMatched (us : Nat) : (scheduleAfter us s).dlMatched = false := rfl
@[simp] theorem scheduleAfter_events (us : Nat) : (scheduleAfter us s).events = s.events := rfl
@[simp] theorem scheduleAfter_steps (us : Nat) : (scheduleAfter us s).steps = s.steps := rfl

/-! ### `disarm` -/

@[simp] theorem disarm_pstate : (disarm s).pstate = s.pstate := rfl
@[simp] theorem disarm_bitCount : (disarm s).bitCount = s.bitCount := rfl
@[simp] theorem disarm_currentByte : (disarm s).currentByte = s.currentByte := rfl
@[simp] theorem disarm_romCommand : (disarm s).romCommand = s.romCommand := rfl
@[simp] theorem disarm_romMatched : (disarm s).romMatched = s.romMatched := rfl
@[simp] theorem disarm_idIndex : (disarm s).idIndex = s.idIndex := rfl
@[simp] theorem disarm_readVal : (disarm s).readVal = s.readVal := rfl
@[simp] theorem disarm_txByte : (disarm s).txByte = s.txByte := rfl
@[simp] theorem disarm_cnt : (disarm s).cnt = s.cnt := rfl
@[simp] theorem disarm_cmp : (disarm s).cmp = s.cmp := rfl
@[simp] theorem disarm_dlArmed : (disarm s).dlArmed = false := rfl
@[simp] theorem disarm_riseEn : (disarm s).riseEn = s.riseEn := rfl
@[simp] theorem disarm_linePrev : (disarm s).linePrev = s.linePrev := rfl
@[simp] theorem disarm_driveLow : (disarm s).driveLow = s.driveLow := rfl
@[simp] theorem disarm_id : (disarm s).id = s.id := rfl
@[simp] theorem disarm_lineIn : (disarm s).lineIn = s.lineIn := rfl
@[simp] theorem disarm_alarmCondition : (disarm s).alarmCondition = s.alarmCondition := rfl
@[simp] theorem disarm_reply : (disarm s).reply = s.reply := rfl
@[simp] theorem disarm_call : (disarm s).call = s.call := rfl
@[simp] theorem disarm_params : (disarm s).params = s.params := rfl
@[simp] theorem disarm_dlMatched : (disarm s).dlMatched = false := rfl
@[simp] theorem disarm_events : (disarm s).events = s.events := rfl
@[simp] theorem disarm_steps : (disarm s).steps = s.steps := rfl

/-! ### `driveLine` -/

@[simp] theorem driveLine_pstate : (driveLine s).pstate = s.pstate := rfl
@[simp] theorem driveLine_bitCount : (driveLine s).bitCount = s.bitCount := rfl
@[simp] theorem driveLine_currentByte : (driveLine s).currentByte = s.currentByte := rfl
@[simp] theorem driveLine_romCommand : (driveLine s).romCommand = s.romCommand := rfl
@[simp] theorem driveLine_romMatched : (driveLine s).romMatched = s.romMatched := rfl
@[simp] theorem driveLine_idIndex : (driveLine s).idIndex = s.idIndex := rfl
@[simp] theorem driveLine_readVal : (driveLine s).readVal = s.readVal := rfl
@[simp] theorem driveLine_txByte : (driveLine s).txByte = s.txByte := rfl
@[simp] theorem driveLine_cnt : (driveLine s).cnt = s.cnt := rfl
@[simp] theorem driveLine_cmp : (driveLine s).cmp = s.cmp := rfl
@[simp] theorem driveLine_dlArmed : (driveLine s).dlArmed = s.dlArmed := rfl
@[simp] theorem driveLine_riseEn : (driveLine s).riseEn = s.riseEn := rfl
@[simp] theorem driveLine_linePrev : (driveLine s).linePrev = s.linePrev := rfl
@[simp] theorem driveLine_driveLow : (driveLine s).driveLow = true := rfl
@[simp] theorem driveLine_id : (driveLine s).id = s.id := rfl
@[simp] theorem driveLine_lineIn : (driveLine s).lineIn = s.lineIn := rfl
@[simp] theorem driveLine_alarmCondition : (driveLine s).alarmCondition = s.alarmCondition := rfl
@[simp] theorem driveLine_reply : (driveLine s).reply = s.reply := rfl
@[simp] theorem driveLine_call : (driveLine s).call = s.call := rfl
@[simp] theorem driveLine_params : (driveLine s).params = s.params := rfl
@[simp] theorem driveLine_dlMatched : (driveLine s).dlMatched = s.dlMatched := rfl
@[simp] theorem driveLine_events : (driveLine s).events = s.events := rfl
@[simp] theorem driveLine_steps : (driveLine s).steps = s.steps := rfl

/-! ### `releaseLine` -/

@[simp] theorem releaseLine_pstate : (releaseLine s).pstate = s.pstate := rfl
@[simp] theorem releaseLine_bitCount : (releaseLine s).bitCount = s.bitCount := rfl
@[simp] theorem releaseLine_currentByte : (releaseLine s).currentByte = s.currentByte := rfl
@[simp] theorem releaseLine_romCommand : (releaseLine s).romCommand = s.romCommand := rfl
@[simp] theorem releaseLine_romMatched : (releaseLine s).romMatched = s.romMatched := rfl
@[simp] theorem releaseLine_idIndex : (releaseLine s).idIndex = s.idIndex := rfl
@[simp] theorem releaseLine_readVal : (releaseLine s).readVal = s.readVal := rfl
@[simp] theorem releaseLine_txByte : (releaseLine s).txByte = s.txByte := rfl
@[simp] theorem releaseLine_cnt : (releaseLine s).cnt = s.cnt := rfl
@[simp] theorem releaseLine_cmp : (releaseLine s).cmp = s.cmp := rfl
@[simp] theorem releaseLine_dlArmed : (releaseLine s).dlArmed = s.dlArmed := rfl
@[simp] theorem releaseLine_riseEn : (releaseLine s).riseEn = s.riseEn := rfl
@[simp] theorem releaseLine_linePrev : (releaseLine s).linePrev = s.linePrev := rfl
@[simp] theorem releaseLine_driveLow : (releaseLine s).driveLow = false := rfl
@[simp] theorem releaseLine_id : (releaseLine s).id = s.id := rfl
@[simp] theorem releaseLine_lineIn : (releaseLine s).lineIn = s.lineIn := rfl
@[simp] theorem releaseLine_alarmCondition : (releaseLine s).alarmCondition = s.alarmCondition := rfl
@[simp] theorem releaseLine_reply : (releaseLine s).reply = s.reply := rfl
@[simp] theorem releaseLine_call : (releaseLine s).call = s.call := rfl
@[simp] theorem releaseLine_params : (releaseLine s).params = s.params := rfl
@[simp] theorem releaseLine_dlMatched : (releaseLine s).dlMatched = s.dlMatched := rfl
@[simp] theorem releaseLine_events : (releaseLine s).events = s.events := rfl
@[simp] theorem releaseLine_steps : (releaseLine s).steps = s.steps := rfl

/-! ### `setTxByte` -/

@[simp] theorem setTxByte_pstate (v : Byte) : (setTxByte v s).pstate = s.pstate := rfl
@[simp] theorem setTxByte_bitCount (v : Byte) : (setTxByte v s).bitCount = s.bitCount := rfl
@[simp] theorem setTxByte_currentByte (v : Byte) : (setTxByte v s).currentByte = s.currentByte := rfl
@[simp] theorem setTxByte_romCommand (v : Byte) : (setTxByte v s).romCommand = s.romCommand := rfl
@[simp] theorem setTxByte_romMatched (v : Byte) : (setTxByte v s).romMatched = s.romMatched := rfl
@[simp] theorem setTxByte_idIndex (v : Byte) : (setTxByte v s).idIndex = s.idIndex := rfl
@[simp] theorem setTxByte_readVal (v : Byte) : (setTxByte v s).readVal = s.readVal := rfl
@[simp] theorem setTxByte_txByte (v : Byte) : (setTxByte v s).txByte = v := rfl
@[simp] theorem setTxByte_cnt (v : Byte) : (setTxByte v s).cnt = s.cnt := rfl
@[simp] theorem setTxByte_cmp (v : Byte) : (setTxByte v s).cmp = s.cmp := rfl
@[simp] theorem setTxByte_dlArmed (v : Byte) : (setTxByte v s).dlArmed = s.dlArmed := rfl
@[simp] theorem setTxByte_riseEn (v : Byte) : (setTxByte v s).riseEn = s.riseEn := rfl
@[simp] theorem setTxByte_linePrev (v : Byte) : (setTxByte v s).linePrev = s.linePrev := rfl
@[simp] theorem setTxByte_driveLow (v : Byte) : (setTxByte v s).driveLow = s.driveLow := rfl
@[simp] theorem setTxByte_id (v : Byte) : (setTxByte v s).id = s.id := rfl
@[simp] theorem setTxByte_lineIn (v : Byte) : (setTxByte v s).lineIn = s.lineIn := rfl
@[simp] theorem setTxByte_alarmCondition (v : Byte) : (setTxByte v s).alarmCondition = s.alarmCondition := rfl
@[simp] theorem setTxByte_reply (v : Byte) : (setTxByte v s).reply = s.reply := rfl
@[simp] theorem setTxByte_call (v : Byte) : (setTxByte v s).call = s.call := rfl
@[simp] theorem setTxByte_params (v : Byte) : (setTxByte v s).params = s.params := rfl
@[simp] theorem setTxByte_dlMatched (v : Byte) : (setTxByte v s).dlMatched = s.dlMatched := rfl
@[simp] theorem setTxByte_events (v : Byte) : (setTxByte v s).events = s.events := rfl
@[simp] theorem setTxByte_steps (v : Byte) : (setTxByte v s).steps = s.steps := rfl

/-! ### `callApp` -/

@[simp] theorem callApp_pstate (c : AppCall) : (callApp c s).pstate = s.pstate := rfl
@[simp] theorem callApp_bitCount (c : AppCall) : (callApp c s).bitCount = s.bitCount := rfl
@[simp] theorem callApp_currentByte (c : AppCall) : (callApp c s).currentByte = s.currentByte := rfl
@[simp] theorem callApp_romCommand (c : AppCall) : (callApp c s).romCommand = s.romCommand := rfl
@[simp] theorem callApp_romMatched (c : AppCall) : (callApp c s).romMatched = s.romMatched := rfl
@[simp] theorem callApp_idIndex (c : AppCall) : (callApp c s).idIndex = s.idIndex := rfl
@[simp] theorem callApp_readVal (c : AppCall) : (callApp c s).readVal = s.readVal := rfl
@[simp] theorem callApp_txByte (c : AppCall) : (callApp c s).txByte = s.reply.staged.getD s.txByte := rfl
@[simp] theorem callApp_cnt (c : AppCall) : (callApp c s).cnt = s.cnt := rfl
@[simp] theorem callApp_cmp (c : AppCall) : (callApp c s).cmp = s.cmp := rfl
@[simp] theorem callApp_dlArmed (c : AppCall) : (callApp c s).dlArmed = s.dlArmed := rfl
@[simp] theorem callApp_riseEn (c : AppCall) : (callApp c s).riseEn = s.riseEn := rfl
@[simp] theorem callApp_linePrev (c : AppCall) : (callApp c s).linePrev = s.linePrev := rfl
@[simp] theorem callApp_driveLow (c : AppCall) : (callApp c s).driveLow = s.driveLow := rfl
@[simp] theorem callApp_id (c : AppCall) : (callApp c s).id = s.id := rfl
@[simp] theorem callApp_lineIn (c : AppCall) : (callApp c s).lineIn = s.lineIn := rfl
@[simp] theorem callApp_alarmCondition (c : AppCall) : (callApp c s).alarmCondition = s.alarmCondition := rfl
@[simp] theorem callApp_reply (c : AppCall) : (callApp c s).reply = s.reply := rfl
@[simp] theorem callApp_call (c : AppCall) : (callApp c s).call = some c := rfl
@[simp] theorem callApp_params (c : AppCall) : (callApp c s).params = s.params := rfl
@[simp] theorem callApp_dlMatched (c : AppCall) : (callApp c s).dlMatched = s.dlMatched := rfl
@[simp] theorem callApp_events (c : AppCall) : (callApp c s).events = s.events := rfl
@[simp] theorem callApp_steps (c : AppCall) : (callApp c s).steps = s.steps := rfl

/-! ### `bindIdentity` -/

@[simp] theorem bindIdentity_pstate (v : Identity) : (bindIdentity v s).pstate = s.pstate := rfl
@[simp] theorem bindIdentity_bitCount (v : Identity) : (bindIdentity v s).bitCount = s.bitCount := rfl
@[simp] theorem bindIdentity_currentByte (v : Identity) : (bindIdentity v s).currentByte = s.currentByte := rfl
@[simp] theorem bindIdentity_romCommand (v : Identity) : (bindIdentity v s).romCommand = s.romCommand := rfl
@[simp] theorem bindIdentity_romMatched (v : Identity) : (bindIdentity v s).romMatched = s.romMatched := rfl
@[simp] theorem bindIdentity_idIndex (v : Identity) : (bindIdentity v s).idIndex = s.idIndex := rfl
@[simp] theorem bindIdentity_readVal (v : Identity) : (bindIdentity v s).readVal = s.readVal := rfl
@[simp] theorem bindIdentity_txByte (v : Identity) : (bindIdentity v s).txByte = s.txByte := rfl
@[simp] theorem bindIdentity_cnt (v : Identity) : (bindIdentity v s).cnt = s.cnt := rfl
@[simp] theorem bindIdentity_cmp (v : Identity) : (bindIdentity v s).cmp = s.cmp := rfl
@[simp] theorem bindIdentity_dlArmed (v : Identity) : (bindIdentity v s).dlArmed = s.dlArmed := rfl
@[simp] theorem bindIdentity_riseEn (v : Identity) : (bindIdentity v s).riseEn = s.riseEn := rfl
@[simp] theorem bindIdentity_linePrev (v : Identity) : (bindIdentity v s).linePrev = s.linePrev := rfl
@[simp] theorem bindIdentity_driveLow (v : Identity) : (bindIdentity v s).driveLow = s.driveLow := rfl
@[simp] theorem bindIdentity_id (v : Identity) : (bindIdentity v s).id = v := rfl
@[simp] theorem bindIdentity_lineIn (v : Identity) : (bindIdentity v s).lineIn = s.lineIn := rfl
@[simp] theorem bindIdentity_alarmCondition (v : Identity) : (bindIdentity v s).alarmCondition = s.alarmCondition := rfl
@[simp] theorem bindIdentity_reply (v : Identity) : (bindIdentity v s).reply = s.reply := rfl
@[simp] theorem bindIdentity_call (v : Identity) : (bindIdentity v s).call = s.call := rfl
@[simp] theorem bindIdentity_params (v : Identity) : (bindIdentity v s).params = s.params := rfl
@[simp] theorem bindIdentity_dlMatched (v : Identity) : (bindIdentity v s).dlMatched = s.dlMatched := rfl
@[simp] theorem bindIdentity_events (v : Identity) : (bindIdentity v s).events = s.events := rfl
@[simp] theorem bindIdentity_steps (v : Identity) : (bindIdentity v s).steps = s.steps := rfl

/-! ### `deselect` -/

@[simp] theorem deselect_pstate : (deselect s).pstate = .idle := rfl
@[simp] theorem deselect_bitCount : (deselect s).bitCount = s.bitCount := rfl
@[simp] theorem deselect_currentByte : (deselect s).currentByte = s.currentByte := rfl
@[simp] theorem deselect_romCommand : (deselect s).romCommand = s.romCommand := rfl
@[simp] theorem deselect_romMatched : (deselect s).romMatched = s.romMatched := rfl
@[simp] theorem deselect_idIndex : (deselect s).idIndex = s.idIndex := rfl
@[simp] theorem deselect_readVal : (deselect s).readVal = s.readVal := rfl
@[simp] theorem deselect_txByte : (deselect s).txByte = s.txByte := rfl
@[simp] theorem deselect_cnt : (deselect s).cnt = s.cnt := rfl
@[simp] theorem deselect_cmp : (deselect s).cmp = s.cmp := rfl
@[simp] theorem deselect_dlArmed : (deselect s).dlArmed = s.dlArmed := rfl
@[simp] theorem deselect_riseEn : (deselect s).riseEn = s.riseEn := rfl
@[simp] theorem deselect_linePrev : (deselect s).linePrev = s.linePrev := rfl
@[simp] theorem deselect_driveLow : (deselect s).driveLow = s.driveLow := rfl
@[simp] theorem deselect_id : (deselect s).id = s.id := rfl
@[simp] theorem deselect_lineIn : (deselect s).lineIn = s.lineIn := rfl
@[simp] theorem deselect_alarmCondition : (deselect s).alarmCondition = s.alarmCondition := rfl
@[simp] theorem deselect_reply : (deselect s).reply = s.reply := rfl
@[simp] theorem deselect_call : (deselect s).call = s.call := rfl
@[simp] theorem deselect_params : (deselect s).params = s.params := rfl
@[simp] theorem deselect_dlMatched : (deselect s).dlMatched = s.dlMatched := rfl
@[simp] theorem deselect_events : (deselect s).events = s.events := rfl
@[simp] theorem deselect_steps : (deselect s).steps = s.steps := rfl

/-! ### `watchdogHandler` -/

@[simp] theorem watchdogHandler_pstate : (watchdogHandler s).pstate = .idle := rfl
@[simp] theorem watchdogHandler_bitCount : (watchdogHandler s).bitCount = 0#3 := rfl
@[simp] theorem watchdogHandler_currentByte : (watchdogHandler s).currentByte = 0#8 := rfl
@[simp] theorem watchdogHandler_romCommand : (watchdogHandler s).romCommand = 0#8 := rfl
@[simp] theorem watchdogHandler_romMatched : (watchdogHandler s).romMatched = false := rfl
@[simp] theorem watchdogHandler_idIndex : (watchdogHandler s).idIndex = 0#3 := rfl
@[simp] theorem watchdogHandler_readVal : (watchdogHandler s).readVal = false := rfl
@[simp] theorem watchdogHandler_txByte : (watchdogHandler s).txByte = 0#8 := rfl
@[simp] theorem watchdogHandler_cnt : (watchdogHandler s).cnt = s.cnt := rfl
@[simp] theorem watchdogHandler_cmp : (watchdogHandler s).cmp = s.cmp := rfl
@[simp] theorem watchdogHandler_dlArmed : (watchdogHandler s).dlArmed = s.dlArmed := rfl
@[simp] theorem watchdogHandler_riseEn : (watchdogHandler s).riseEn = s.riseEn := rfl
@[simp] theorem watchdogHandler_linePrev : (watchdogHandler s).linePrev = s.linePrev := rfl
@[simp] theorem watchdogHandler_driveLow : (watchdogHandler s).driveLow = s.driveLow := rfl
@[simp] theorem watchdogHandler_id : (watchdogHandler s).id = s.id := rfl
@[simp] theorem watchdogHandler_lineIn : (watchdogHandler s).lineIn = s.lineIn := rfl
@[simp] theorem watchdogHandler_alarmCondition : (watchdogHandler s).alarmCondition = s.alarmCondition := rfl
@[simp] theorem watchdogHandler_reply : (watchdogHandler s).reply = s.reply := rfl
@[simp] theorem watchdogHandler_call : (watchdogHandler s).call = s.call := rfl
@[simp] theorem watchdogHandler_params : (watchdogHandler s).params = s.params := rfl
@[simp] theorem watchdogHandler_dlMatched : (watchdogHandler s).dlMatched = s.dlMatched := rfl
@[simp] theorem watchdogHandler_events : (watchdogHandler s).events = s.events := rfl
@[simp] theorem watchdogHandler_steps : (watchdogHandler s).steps = s.steps := rfl

/-! ### `powerOnReset` -/

@[simp] theorem powerOnReset_pstate : (powerOnReset s).pstate = .idle := rfl
@[simp] theorem powerOnReset_bitCount : (powerOnReset s).bitCount = 0#3 := rfl
@[simp] theorem powerOnReset_currentByte : (powerOnReset s).currentByte = 0#8 := rfl
@[simp] theorem powerOnReset_romCommand : (powerOnReset s).romCommand = 0#8 := rfl
@[simp] theorem powerOnReset_romMatched : (powerOnReset s).romMatched = false := rfl
@[simp] theorem powerOnReset_idIndex : (powerOnReset s).idIndex = 0#3 := rfl
@[simp] theorem powerOnReset_readVal : (powerOnReset s).readVal = false := rfl
@[simp] theorem powerOnReset_txByte : (powerOnReset s).txByte = 0#8 := rfl
@[simp] theorem powerOnReset_cnt : (powerOnReset s).cnt = 0 := rfl
@[simp] theorem powerOnReset_cmp : (powerOnReset s).cmp = 0 := rfl
@[simp] theorem powerOnReset_dlArmed : (powerOnReset s).dlArmed = false := rfl
@[simp] theorem powerOnReset_riseEn : (powerOnReset s).riseEn = false := rfl
@[simp] theorem powerOnReset_linePrev : (powerOnReset s).linePrev = true := rfl
@[simp] theorem powerOnReset_driveLow : (powerOnReset s).driveLow = false := rfl
@[simp] theorem powerOnReset_id : (powerOnReset s).id = s.id := rfl
@[simp] theorem powerOnReset_lineIn : (powerOnReset s).lineIn = s.lineIn := rfl
@[simp] theorem powerOnReset_alarmCondition : (powerOnReset s).alarmCondition = s.alarmCondition := rfl
@[simp] theorem powerOnReset_reply : (powerOnReset s).reply = s.reply := rfl
@[simp] theorem powerOnReset_call : (powerOnReset s).call = none := rfl
@[simp] theorem powerOnReset_params : (powerOnReset s).params = s.params := rfl
@[simp] theorem powerOnReset_dlMatched : (powerOnReset s).dlMatched = false := rfl
@[simp] theorem powerOnReset_events : (powerOnReset s).events = s.events := rfl
@[simp] theorem powerOnReset_steps : (powerOnReset s).steps = s.steps := rfl

/-! ### `loadRead` -/

@[simp] theorem loadRead_pstate : (loadRead s).pstate = .read := rfl
@[simp] theorem loadRead_bitCount : (loadRead s).bitCount = s.bitCount := rfl
@[simp] theorem loadRead_currentByte : (loadRead s).currentByte = s.currentByte := rfl
@[simp] theorem loadRead_romCommand : (loadRead s).romCommand = s.romCommand := rfl
@[simp] theorem loadRead_romMatched : (loadRead s).romMatched = s.romMatched := rfl
@[simp] theorem loadRead_idIndex : (loadRead s).idIndex = s.idIndex := rfl
@[simp] theorem loadRead_readVal : (loadRead s).readVal = idBit s := rfl
@[simp] theorem loadRead_txByte : (loadRead s).txByte = s.txByte := rfl
@[simp] theorem loadRead_cnt : (loadRead s).cnt = s.cnt := rfl
@[simp] theorem loadRead_cmp : (loadRead s).cmp = s.cmp := rfl
@[simp] theorem loadRead_dlArmed : (loadRead s).dlArmed = s.dlArmed := rfl
@[simp] theorem loadRead_riseEn : (loadRead s).riseEn = s.riseEn := rfl
@[simp] theorem loadRead_linePrev : (loadRead s).linePrev = s.linePrev := rfl
@[simp] theorem loadRead_driveLow : (loadRead s).driveLow = s.driveLow := rfl
@[simp] theorem loadRead_id : (loadRead s).id = s.id := rfl
@[simp] theorem loadRead_lineIn : (loadRead s).lineIn = s.lineIn := rfl
@[simp] theorem loadRead_alarmCondition : (loadRead s).alarmCondition = s.alarmCondition := rfl
@[simp] theorem loadRead_reply : (loadRead s).reply = s.reply := rfl
@[simp] theorem loadRead_call : (loadRead s).call = s.call := rfl
@[simp] theorem loadRead_params : (loadRead s).params = s.params := rfl
@[simp] theorem loadRead_dlMatched : (loadRead s).dlMatched = s.dlMatched := rfl
@[simp] theorem loadRead_events : (loadRead s).events = s.events := rfl
@[simp] theorem loadRead_steps : (loadRead s).steps = s.steps := rfl

/-! ### `select` -/

@[simp] theorem select_pstate : (select s).pstate = s.pstate := rfl
@[simp] theorem select_bitCount : (select s).bitCount = s.bitCount := rfl
@[simp] theorem select_currentByte : (select s).currentByte = s.currentByte := rfl
@[simp] theorem select_romCommand : (select s).romCommand = s.romCommand := rfl
@[simp] theorem select_romMatched : (select s).romMatched = true := rfl
@[simp] theorem select_idIndex : (select s).idIndex = s.idIndex := rfl
@[simp] theorem select_readVal : (select s).readVal = s.readVal := rfl
@[simp] theorem select_txByte : (select s).txByte = s.reply.staged.getD s.txByte := rfl
@[simp] theorem select_cnt : (select s).cnt = s.cnt := rfl
@[simp] theorem select_cmp : (select s).cmp = s.cmp := rfl
@[simp] theorem select_dlArmed : (select s).dlArmed = s.dlArmed := rfl
@[simp] theorem select_riseEn : (select s).riseEn = s.riseEn := rfl
@[simp] theorem select_linePrev : (select s).linePrev = s.linePrev := rfl
@[simp] theorem select_driveLow : (select s).driveLow = s.driveLow := rfl
@[simp] theorem select_id : (select s).id = s.id := rfl
@[simp] theorem select_lineIn : (select s).lineIn = s.lineIn := rfl
@[simp] theorem select_alarmCondition : (select s).alarmCondition = s.alarmCondition := rfl
@[simp] theorem select_reply : (select s).reply = s.reply := rfl
@[simp] theorem select_call : (select s).call = some .onSelected := rfl
@[simp] theorem select_params : (select s).params = s.params := rfl
@[simp] theorem select_dlMatched : (select s).dlMatched = s.dlMatched := rfl
@[simp] theorem select_events : (select s).events = s.events := rfl
@[simp] theorem select_steps : (select s).steps = s.steps := rfl

/-! ### `latch` -/

@[simp] theorem latch_pstate : (latch s).pstate = s.pstate := rfl
@[simp] theorem latch_bitCount : (latch s).bitCount = 0#3 := rfl
@[simp] theorem latch_currentByte : (latch s).currentByte = s.currentByte := rfl
@[simp] theorem latch_romCommand : (latch s).romCommand = s.currentByte := rfl
@[simp] theorem latch_romMatched : (latch s).romMatched = s.romMatched := rfl
@[simp] theorem latch_idIndex : (latch s).idIndex = 7#3 := rfl
@[simp] theorem latch_readVal : (latch s).readVal = s.readVal := rfl
@[simp] theorem latch_txByte : (latch s).txByte = s.txByte := rfl
@[simp] theorem latch_cnt : (latch s).cnt = s.cnt := rfl
@[simp] theorem latch_cmp : (latch s).cmp = s.cmp := rfl
@[simp] theorem latch_dlArmed : (latch s).dlArmed = s.dlArmed := rfl
@[simp] theorem latch_riseEn : (latch s).riseEn = s.riseEn := rfl
@[simp] theorem latch_linePrev : (latch s).linePrev = s.linePrev := rfl
@[simp] theorem latch_driveLow : (latch s).driveLow = s.driveLow := rfl
@[simp] theorem latch_id : (latch s).id = s.id := rfl
@[simp] theorem latch_lineIn : (latch s).lineIn = s.lineIn := rfl
@[simp] theorem latch_alarmCondition : (latch s).alarmCondition = s.alarmCondition := rfl
@[simp] theorem latch_reply : (latch s).reply = s.reply := rfl
@[simp] theorem latch_call : (latch s).call = s.call := rfl
@[simp] theorem latch_params : (latch s).params = s.params := rfl
@[simp] theorem latch_dlMatched : (latch s).dlMatched = s.dlMatched := rfl
@[simp] theorem latch_events : (latch s).events = s.events := rfl
@[simp] theorem latch_steps : (latch s).steps = s.steps := rfl

/-! ### `rejectPulse` -/

@[simp] theorem rejectPulse_pstate : (rejectPulse s).pstate = s.pstate := rfl
@[simp] theorem rejectPulse_bitCount : (rejectPulse s).bitCount = s.bitCount := rfl
@[simp] theorem rejectPulse_currentByte : (rejectPulse s).currentByte = s.currentByte := rfl
@[simp] theorem rejectPulse_romCommand : (rejectPulse s).romCommand = s.romCommand := rfl
@[simp] theorem rejectPulse_romMatched : (rejectPulse s).romMatched = s.romMatched := rfl
@[simp] theorem rejectPulse_idIndex : (rejectPulse s).idIndex = s.idIndex := rfl
@[simp] theorem rejectPulse_readVal : (rejectPulse s).readVal = s.readVal := rfl
@[simp] theorem rejectPulse_txByte : (rejectPulse s).txByte = s.txByte := rfl
@[simp] theorem rejectPulse_cnt : (rejectPulse s).cnt = s.cnt := rfl
@[simp] theorem rejectPulse_cmp : (rejectPulse s).cmp = s.cmp := rfl
@[simp] theorem rejectPulse_dlArmed : (rejectPulse s).dlArmed = s.dlArmed := rfl
@[simp] theorem rejectPulse_riseEn : (rejectPulse s).riseEn = false := rfl
@[simp] theorem rejectPulse_linePrev : (rejectPulse s).linePrev = s.linePrev := rfl
@[simp] theorem rejectPulse_driveLow : (rejectPulse s).driveLow = s.driveLow := rfl
@[simp] theorem rejectPulse_id : (rejectPulse s).id = s.id := rfl
@[simp] theorem rejectPulse_lineIn : (rejectPulse s).lineIn = s.lineIn := rfl
@[simp] theorem rejectPulse_alarmCondition : (rejectPulse s).alarmCondition = s.alarmCondition := rfl
@[simp] theorem rejectPulse_reply : (rejectPulse s).reply = s.reply := rfl
@[simp] theorem rejectPulse_call : (rejectPulse s).call = s.call := rfl
@[simp] theorem rejectPulse_params : (rejectPulse s).params = s.params := rfl
@[simp] theorem rejectPulse_dlMatched : (rejectPulse s).dlMatched = s.dlMatched := rfl
@[simp] theorem rejectPulse_events : (rejectPulse s).events = s.events := rfl
@[simp] theorem rejectPulse_steps : (rejectPulse s).steps = s.steps := rfl

/-! ### `acceptPulse` -/

@[simp] theorem acceptPulse_pstate : (acceptPulse s).pstate = .presenceWait := rfl
@[simp] theorem acceptPulse_bitCount : (acceptPulse s).bitCount = 0#3 := rfl
@[simp] theorem acceptPulse_currentByte : (acceptPulse s).currentByte = 0#8 := rfl
@[simp] theorem acceptPulse_romCommand : (acceptPulse s).romCommand = 0#8 := rfl
@[simp] theorem acceptPulse_romMatched : (acceptPulse s).romMatched = false := rfl
@[simp] theorem acceptPulse_idIndex : (acceptPulse s).idIndex = 0#3 := rfl
@[simp] theorem acceptPulse_readVal : (acceptPulse s).readVal = false := rfl
@[simp] theorem acceptPulse_txByte : (acceptPulse s).txByte = 0#8 := rfl
@[simp] theorem acceptPulse_cnt : (acceptPulse s).cnt = 0 := rfl
@[simp] theorem acceptPulse_cmp : (acceptPulse s).cmp = Config.tPdly := rfl
@[simp] theorem acceptPulse_dlArmed : (acceptPulse s).dlArmed = true := rfl
@[simp] theorem acceptPulse_riseEn : (acceptPulse s).riseEn = false := rfl
@[simp] theorem acceptPulse_linePrev : (acceptPulse s).linePrev = s.linePrev := rfl
@[simp] theorem acceptPulse_driveLow : (acceptPulse s).driveLow = s.driveLow := rfl
@[simp] theorem acceptPulse_id : (acceptPulse s).id = s.id := rfl
@[simp] theorem acceptPulse_lineIn : (acceptPulse s).lineIn = s.lineIn := rfl
@[simp] theorem acceptPulse_alarmCondition : (acceptPulse s).alarmCondition = s.alarmCondition := rfl
@[simp] theorem acceptPulse_reply : (acceptPulse s).reply = s.reply := rfl
@[simp] theorem acceptPulse_call : (acceptPulse s).call = s.call := rfl
@[simp] theorem acceptPulse_params : (acceptPulse s).params = s.params := rfl
@[simp] theorem acceptPulse_dlMatched : (acceptPulse s).dlMatched = false := rfl
@[simp] theorem acceptPulse_events : (acceptPulse s).events = s.events := rfl
@[simp] theorem acceptPulse_steps : (acceptPulse s).steps = s.steps := rfl

/-! ### `countUp` -/

@[simp] theorem countUp_pstate : (countUp s).pstate = s.pstate := rfl
@[simp] theorem countUp_bitCount : (countUp s).bitCount = s.bitCount := rfl
@[simp] theorem countUp_currentByte : (countUp s).currentByte = s.currentByte := rfl
@[simp] theorem countUp_romCommand : (countUp s).romCommand = s.romCommand := rfl
@[simp] theorem countUp_romMatched : (countUp s).romMatched = s.romMatched := rfl
@[simp] theorem countUp_idIndex : (countUp s).idIndex = s.idIndex := rfl
@[simp] theorem countUp_readVal : (countUp s).readVal = s.readVal := rfl
@[simp] theorem countUp_txByte : (countUp s).txByte = s.txByte := rfl
@[simp] theorem countUp_cnt : (countUp s).cnt = nextCount s := rfl
@[simp] theorem countUp_cmp : (countUp s).cmp = s.cmp := rfl
@[simp] theorem countUp_dlArmed : (countUp s).dlArmed = s.dlArmed := rfl
@[simp] theorem countUp_riseEn : (countUp s).riseEn = s.riseEn := rfl
@[simp] theorem countUp_linePrev : (countUp s).linePrev = s.linePrev := rfl
@[simp] theorem countUp_driveLow : (countUp s).driveLow = s.driveLow := rfl
@[simp] theorem countUp_id : (countUp s).id = s.id := rfl
@[simp] theorem countUp_lineIn : (countUp s).lineIn = s.lineIn := rfl
@[simp] theorem countUp_alarmCondition : (countUp s).alarmCondition = s.alarmCondition := rfl
@[simp] theorem countUp_reply : (countUp s).reply = s.reply := rfl
@[simp] theorem countUp_call : (countUp s).call = s.call := rfl
@[simp] theorem countUp_params : (countUp s).params = s.params := rfl
@[simp] theorem countUp_dlMatched : (countUp s).dlMatched = nextMatched s := rfl
@[simp] theorem countUp_events : (countUp s).events = s.events := rfl
@[simp] theorem countUp_steps : (countUp s).steps = s.steps := rfl

/-! ### `followLine` -/

@[simp] theorem followLine_pstate : (followLine s).pstate = s.pstate := rfl
@[simp] theorem followLine_bitCount : (followLine s).bitCount = s.bitCount := rfl
@[simp] theorem followLine_currentByte : (followLine s).currentByte = s.currentByte := rfl
@[simp] theorem followLine_romCommand : (followLine s).romCommand = s.romCommand := rfl
@[simp] theorem followLine_romMatched : (followLine s).romMatched = s.romMatched := rfl
@[simp] theorem followLine_idIndex : (followLine s).idIndex = s.idIndex := rfl
@[simp] theorem followLine_readVal : (followLine s).readVal = s.readVal := rfl
@[simp] theorem followLine_txByte : (followLine s).txByte = s.txByte := rfl
@[simp] theorem followLine_cnt : (followLine s).cnt = s.cnt := rfl
@[simp] theorem followLine_cmp : (followLine s).cmp = s.cmp := rfl
@[simp] theorem followLine_dlArmed : (followLine s).dlArmed = s.dlArmed := rfl
@[simp] theorem followLine_riseEn : (followLine s).riseEn = s.riseEn := rfl
@[simp] theorem followLine_linePrev : (followLine s).linePrev = s.lineIn := rfl
@[simp] theorem followLine_driveLow : (followLine s).driveLow = s.driveLow := rfl
@[simp] theorem followLine_id : (followLine s).id = s.id := rfl
@[simp] theorem followLine_lineIn : (followLine s).lineIn = s.lineIn := rfl
@[simp] theorem followLine_alarmCondition : (followLine s).alarmCondition = s.alarmCondition := rfl
@[simp] theorem followLine_reply : (followLine s).reply = s.reply := rfl
@[simp] theorem followLine_call : (followLine s).call = s.call := rfl
@[simp] theorem followLine_params : (followLine s).params = s.params := rfl
@[simp] theorem followLine_dlMatched : (followLine s).dlMatched = s.dlMatched := rfl
@[simp] theorem followLine_events : (followLine s).events = s.events := rfl
@[simp] theorem followLine_steps : (followLine s).steps = s.steps := rfl

/-! ### `samplePorts` -/

@[simp] theorem samplePorts_pstate (i : TickInput) : (samplePorts i s).pstate = s.pstate := rfl
@[simp] theorem samplePorts_bitCount (i : TickInput) : (samplePorts i s).bitCount = s.bitCount := rfl
@[simp] theorem samplePorts_currentByte (i : TickInput) : (samplePorts i s).currentByte = s.currentByte := rfl
@[simp] theorem samplePorts_romCommand (i : TickInput) : (samplePorts i s).romCommand = s.romCommand := rfl
@[simp] theorem samplePorts_romMatched (i : TickInput) : (samplePorts i s).romMatched = s.romMatched := rfl
@[simp] theorem samplePorts_idIndex (i : TickInput) : (samplePorts i s).idIndex = s.idIndex := rfl
@[simp] theorem samplePorts_readVal (i : TickInput) : (samplePorts i s).readVal = s.readVal := rfl
@[simp] theorem samplePorts_txByte (i : TickInput) : (samplePorts i s).txByte = s.txByte := rfl
@[simp] theorem samplePorts_cnt (i : TickInput) : (samplePorts i s).cnt = s.cnt := rfl
@[simp] theorem samplePorts_cmp (i : TickInput) : (samplePorts i s).cmp = s.cmp := rfl
@[simp] theorem samplePorts_dlArmed (i : TickInput) : (samplePorts i s).dlArmed = s.dlArmed := rfl
@[simp] theorem samplePorts_riseEn (i : TickInput) : (samplePorts i s).riseEn = s.riseEn := rfl
@[simp] theorem samplePorts_linePrev (i : TickInput) : (samplePorts i s).linePrev = s.linePrev := rfl
@[simp] theorem samplePorts_driveLow (i : TickInput) : (samplePorts i s).driveLow = s.driveLow := rfl
@[simp] theorem samplePorts_id (i : TickInput) : (samplePorts i s).id = s.id := rfl
@[simp] theorem samplePorts_lineIn (i : TickInput) : (samplePorts i s).lineIn = lineLevel i.release s := rfl
@[simp] theorem samplePorts_alarmCondition (i : TickInput) : (samplePorts i s).alarmCondition = i.alarm := rfl
@[simp] theorem samplePorts_reply (i : TickInput) : (samplePorts i s).reply = i.reply := rfl
@[simp] theorem samplePorts_call (i : TickInput) : (samplePorts i s).call = none := rfl
@[simp] theorem samplePorts_params (i : TickInput) : (samplePorts i s).params = s.params := rfl
@[simp] theorem samplePorts_dlMatched (i : TickInput) : (samplePorts i s).dlMatched = s.dlMatched := rfl
@[simp] theorem samplePorts_events (i : TickInput) : (samplePorts i s).events = s.events := rfl
@[simp] theorem samplePorts_steps (i : TickInput) : (samplePorts i s).steps = s.steps := rfl

/-! ### `takeEvent` -/

@[simp] theorem takeEvent_pstate : (takeEvent s).pstate = s.pstate := rfl
@[simp] theorem takeEvent_bitCount : (takeEvent s).bitCount = s.bitCount := rfl
@[simp] theorem takeEvent_currentByte : (takeEvent s).currentByte = s.currentByte := rfl
@[simp] theorem takeEvent_romCommand : (takeEvent s).romCommand = s.romCommand := rfl
@[simp] theorem takeEvent_romMatched : (takeEvent s).romMatched = s.romMatched := rfl
@[simp] theorem takeEvent_idIndex : (takeEvent s).idIndex = s.idIndex := rfl
@[simp] theorem takeEvent_readVal : (takeEvent s).readVal = s.readVal := rfl
@[simp] theorem takeEvent_txByte : (takeEvent s).txByte = s.txByte := rfl
@[simp] theorem takeEvent_cnt : (takeEvent s).cnt = s.cnt := rfl
@[simp] theorem takeEvent_cmp : (takeEvent s).cmp = s.cmp := rfl
@[simp] theorem takeEvent_dlArmed : (takeEvent s).dlArmed = s.dlArmed := rfl
@[simp] theorem takeEvent_riseEn : (takeEvent s).riseEn = s.riseEn := rfl
@[simp] theorem takeEvent_linePrev : (takeEvent s).linePrev = s.linePrev := rfl
@[simp] theorem takeEvent_driveLow : (takeEvent s).driveLow = s.driveLow := rfl
@[simp] theorem takeEvent_id : (takeEvent s).id = s.id := rfl
@[simp] theorem takeEvent_lineIn : (takeEvent s).lineIn = s.lineIn := rfl
@[simp] theorem takeEvent_alarmCondition : (takeEvent s).alarmCondition = s.alarmCondition := rfl
@[simp] theorem takeEvent_reply : (takeEvent s).reply = s.reply := rfl
@[simp] theorem takeEvent_call : (takeEvent s).call = s.call := rfl
@[simp] theorem takeEvent_params : (takeEvent s).params = s.params := rfl
@[simp] theorem takeEvent_dlMatched : (takeEvent s).dlMatched = s.dlMatched := rfl
@[simp] theorem takeEvent_events : (takeEvent s).events = s.events.tail := rfl
@[simp] theorem takeEvent_steps : (takeEvent s).steps = s.steps + 1 := rfl

end Sys2Proof.Machine
end

