-- ==== Sys2Proof/Laws/Ops.lean ====
section
/-! SUPPORT. What each shared operation can do, said once: later proofs cite these and do not unfold the operation. -/

namespace Sys2Proof.Machine

@[simp] theorem andThen_next (s : State) (f : State → Result) : andThen (.next s) f = f s := rfl

/-! ### Conditions -/

theorem deadlineDue_iff (s : State) :
    deadlineDue s = true ↔
      s.dlArmed = true ∧ s.dlMatched = true ∧ s.cnt = (s.cmp + s.params.deadlineLatency) % 2 ^ s.params.cntWidth := by
  simp [deadlineDue, and_assoc]

theorem nextMatched_iff (s : State) :
    nextMatched s = true ↔ s.dlMatched = true ∨ (s.dlArmed = true ∧ nextCount s = s.cmp) := by simp [nextMatched]

theorem inWindow_iff (s : State) : inWindow s = true ↔ s.cmp - 2 ≤ s.cnt ∧ s.cnt ≤ s.cmp + 10 := by simp [inWindow]

theorem fallingSeen_iff (s : State) : fallingSeen s = true ↔ s.linePrev = true ∧ s.lineIn = false := by simp [fallingSeen]

theorem risingSeen_iff (s : State) : risingSeen s = true ↔ s.linePrev = false ∧ s.lineIn = true := by simp [risingSeen]

theorem pulseRejected_iff (pw : Nat) : pulseRejected pw = true ↔ pw < 450 ∨ 510 < pw := by simp [pulseRejected]

theorem pulseAccepted_iff (pw : Nat) : pulseAccepted pw = true ↔ 470 < pw := by simp [pulseAccepted]

/-! ### The resolver's operations -/

theorem noCommandYet_iff (s : State) : noCommandYet s = true ↔ s.romCommand = 0#8 := by simp [noCommandYet]

theorem lastBit_iff (s : State) : lastBit s = true ↔ s.idIndex = 0#3 ∧ s.bitCount = 7#3 := by simp [lastBit]

/-- `Advance()` writes the cursor only. -/
theorem advance_cases (s : State) :
    (s.bitCount = 7#3 ∧ advance s = { s with bitCount := 0#3, idIndex := s.idIndex - 1#3 }) ∨
    (s.bitCount ≠ 7#3 ∧ advance s = { s with bitCount := s.bitCount + 1#3 }) := by
  by_cases h : s.bitCount = 7#3 <;> simp [advance, nextBit, h]

/-- One operand bit of Match ROM: dropped, selected, next byte or next bit. -/
theorem matchBit_cases (s : State) :
    ((s.pstate ≠ .write ∨ handedBit s ≠ idBit s) ∧ matchBit s = deselect s) ∨
    (s.pstate = .write ∧ handedBit s = idBit s ∧
      ((lastBit s = true ∧ matchBit s = select (firstBit s)) ∨ (lastBit s = false ∧ matchBit s = advance s))) := by
  by_cases h₁ : s.pstate = .write <;> by_cases h₂ : handedBit s = idBit s <;>
    by_cases h₃ : s.bitCount = 7#3 <;> by_cases h₄ : s.idIndex = 0#3 <;>
    simp [matchBit, lastBit, advance, nextBit, firstBit, h₁, h₂, h₃, h₄]

/-- One bit of a search: dropped, selected or on to the next bit in `Write`; the complement, kept or handed to `Write`, in `Read`. -/
theorem searchBit_cases (s : State) :
    (s.pstate = .write ∧
      ((handedBit s ≠ s.readVal ∧ searchBit s = deselect s) ∨
       (handedBit s = s.readVal ∧ lastBit s = true ∧ searchBit s = select (firstBit s)) ∨
       (handedBit s = s.readVal ∧ lastBit s = false ∧ searchBit s = loadRead (advance s)))) ∨
    (s.pstate ≠ .write ∧
      (((!s.readVal) = idBit s ∧ searchBit s = { s with readVal := !s.readVal, pstate := .write }) ∨
       ((!s.readVal) ≠ idBit s ∧ searchBit s = { s with readVal := !s.readVal }))) := by
  by_cases h₁ : s.pstate = .write
  · by_cases h₂ : handedBit s = s.readVal <;> by_cases h₃ : lastBit s = true <;>
      simp [searchBit, searchDirection, h₁, h₂, h₃]
  · refine .inr ⟨h₁, ?_⟩
    rw [searchBit, if_neg h₁, searchHalfSlot]
    split
    · exact .inl ⟨‹_›, rfl⟩
    · exact .inr ⟨‹_›, rfl⟩

/-- One bit of Read ROM: dropped, selected into `Write`, or on to the next bit. -/
theorem readRomBit_cases (s : State) :
    (s.pstate ≠ .read ∧ readRomBit s = deselect s) ∨
    (s.pstate = .read ∧
      ((lastBit s = true ∧ readRomBit s = { select (firstBit s) with pstate := .write }) ∨
       (lastBit s = false ∧ readRomBit s = { advance s with readVal := idBit (advance s) }))) := by
  by_cases h₁ : s.pstate = .read <;> by_cases h₂ : lastBit s = true <;> simp [readRomBit, h₁, h₂]

/-! ### The bridge -/

/-- A received bit of a selected engine: one more bit, or a byte for the application. -/
theorem bridgeReceive_cases (s : State) :
    (s.bitCount ≠ 7#3 ∧ bridgeReceive s = nextBit (shiftIn (handedBit s) s)) ∨
    (s.bitCount = 7#3 ∧ ∃ u, u = callApp (.onByteReceived (shiftIn (handedBit s) s).currentByte) (firstBit (shiftIn (handedBit s) s)) ∧
      ((s.reply.wantTransmit = true ∧ bridgeReceive s = { u with pstate := .read, readVal := byteBit u.txByte 0#3 }) ∨
       (s.reply.wantTransmit = false ∧ bridgeReceive s = u))) := by
  by_cases h₁ : s.bitCount = 7#3 <;> cases h₂ : s.reply.wantTransmit <;> simp [bridgeReceive, h₁, h₂]

/-- A sent bit of a selected engine: one more bit, or a byte done. -/
theorem bridgeTransmit_cases (s : State) :
    ∃ u, (s.bitCount = 7#3 ∧ u = callApp .onByteSent (firstBit s) ∨ s.bitCount ≠ 7#3 ∧ u = nextBit s) ∧
      bridgeTransmit s = { u with readVal := byteBit u.txByte u.bitCount } := by
  by_cases h : s.bitCount = 7#3 <;> simp [bridgeTransmit, h]

/-! ### Edges and the watchdog -/

/-- The edge handler of a tick: nothing, a falling edge or a rising edge (R100). -/
theorem edgePart_cases (s : State) :
    (s.lineIn = s.linePrev ∧ edgePart s = s) ∨
    (s.linePrev = true ∧ s.lineIn = false ∧ edgePart s = fallingEdge s) ∨
    (s.linePrev = false ∧ s.lineIn = true ∧ edgePart s = risingEdge s) := by
  cases h₁ : s.linePrev <;> cases h₂ : s.lineIn <;> simp [edgePart, fallingSeen, risingSeen, h₁, h₂]

/-- A falling edge, by state (R113). -/
theorem fallingEdge_cases (s : State) :
    (s.pstate = .idle ∧ fallingEdge s = { scheduleAfter s.params.resetTimeoutCmp s with riseEn := true }) ∨
    (s.pstate = .write ∧ fallingEdge s = scheduleAfter Config.tWsample s) ∨
    (s.pstate = .read ∧ fallingEdge s = scheduleAfter Config.tRslot { s with driveLow := !s.readVal }) ∨
    ((s.pstate = .presenceWait ∨ s.pstate = .presencePulse) ∧ fallingEdge s = s) := by
  cases h : s.pstate <;> simp only [fallingEdge, h, reduceCtorEq, false_and, true_and, false_or, or_false, or_true]
  cases h₂ : s.readVal <;> simp [driveLine, releaseLine, h, h₂]

/-- A rising edge: nothing, a rejected pulse or an accepted one (R106 to R110). -/
theorem risingEdge_cases (s : State) :
    risingEdge s = s ∨
    (s.pstate = .idle ∧ s.riseEn = true ∧ (s.cnt < 450 ∨ 510 < s.cnt) ∧ risingEdge s = rejectPulse s) ∨
    (s.pstate = .idle ∧ s.riseEn = true ∧
      ((470 < s.cnt ∧ s.cnt ≤ 510) ∨ (s.params.deadzoneAccept = true ∧ 450 ≤ s.cnt ∧ s.cnt ≤ 470)) ∧
      risingEdge s = acceptPulse s) := by
  by_cases h : s.pstate = .idle ∧ s.riseEn = true
  · rw [risingEdge, if_pos h]
    by_cases h₁ : pulseRejected s.cnt = true
    · exact .inr (.inl ⟨h.1, h.2, (pulseRejected_iff _).1 h₁, if_pos h₁⟩)
    · have h₁' := mt (pulseRejected_iff _).2 h₁
      rw [if_neg h₁]
      by_cases h₂ : pulseAccepted s.cnt = true
      · exact .inr (.inr ⟨h.1, h.2, .inl ⟨(pulseAccepted_iff _).1 h₂, by omega⟩, if_pos h₂⟩)
      · have h₂' := mt (pulseAccepted_iff _).2 h₂
        rw [if_neg h₂, deadZone]
        split
        · exact .inr (.inr ⟨h.1, h.2, .inr ⟨‹_›, by omega, by omega⟩, rfl⟩)
        · exact .inl rfl
  · exact .inl (if_neg h)

/-- The watchdog event clears everything it may, or does not happen. -/
theorem watchdogPart_cases (c : Nat) (s : State) :
    (c = 500 ∧ watchdogPart c s = watchdogHandler s) ∨ (c ≠ 500 ∧ watchdogPart c s = s) := by
  by_cases h : c = 500 <;> simp [watchdogPart, Config.tWdg, h]

end Sys2Proof.Machine
end

