-- ==== Sys2Proof/Laws/Outcome.lean ====
section
/-! SUPPORT. No command and no handler stops: each is a next state that is a plain function of the state it starts from. -/

namespace Sys2Proof.Machine

/-- The state a command leaves. -/
def execState (i : Instr) (s : State) : State :=
  match i with
  | .searchRom => if noCommandYet s then loadRead (latch s) else searchBit s
  | .matchRom => if noCommandYet s then latch s else matchBit s
  | .skipRom => if noCommandYet s then select (latch s) else deselect s
  | .readRom => if noCommandYet s then loadRead (latch s) else readRomBit s
  | .alarmSearch =>
    if noCommandYet s then (if s.alarmCondition then loadRead (latch s) else deselect (latch s)) else searchBit s
  | .unknown _ => if noCommandYet s then deselect (latch s) else deselect s

theorem exec_eq (i : Instr) (s : State) : exec i s = .next (execState i s) := by cases i <;> rfl

/-- The state a bit of the command byte leaves. -/
def receiveState (s : State) : State :=
  if s.pstate ≠ .write then deselect s
  else if s.bitCount = 7#3 then
    execState (decodeByte (shiftIn (handedBit s) s).currentByte) (shiftIn (handedBit s) s)
  else nextBit (shiftIn (handedBit s) s)

theorem receiveCommandBit_eq (s : State) : receiveCommandBit s = .next (receiveState s) := by
  unfold receiveCommandBit receiveState
  split
  · rfl
  · dsimp only
    split
    · exact exec_eq ..
    · rfl

/-- The state the dispatcher leaves. -/
def processState (s : State) : State :=
  if s.romMatched then bridge s
  else if noCommandYet s then receiveState s
  else execState (decodeByte s.romCommand) s

theorem processBit_eq (s : State) : processBit s = .next (processState s) := by
  unfold processBit processState
  split
  · rfl
  · split
    · exact receiveCommandBit_eq s
    · exact exec_eq ..

/-- The state an arm of the deadline handler leaves. -/
def armState (s : State) : State :=
  match s.pstate with
  | .write => processState (releaseLine s)
  | .read => processState (releaseLine s)
  | .presencePulse => { releaseLine s with pstate := .write }
  | .presenceWait => scheduleAfter Config.tPpulse { driveLine s with pstate := .presencePulse }
  | .idle => s

theorem deadlineArm_eq (s : State) : deadlineArm s = .next (armState s) := by
  unfold deadlineArm armState
  cases s.pstate <;> first | rfl | exact processBit_eq _

/-- The state the deadline part of a tick leaves. -/
def deadlineState (s : State) : State :=
  if deadlineDue s then
    if inWindow (disarm s) then armState (disarm s) else disarm s
  else s

theorem deadlinePart_eq (s : State) : deadlinePart s = .next (deadlineState s) := by
  unfold deadlinePart deadlineState deadlineHandler
  split
  · split
    · exact deadlineArm_eq _
    · rfl
  · rfl

/-- The state the timer part of a tick leaves. -/
def timerState (s : State) : State := watchdogPart s.cnt (deadlineState s)

theorem timerPart_eq (s : State) : timerPart s = .next (timerState s) := by
  simp [timerPart, deadlinePart_eq, timerState]

/-- The state the two parts of a tick leave. -/
def handlersState (s : State) : State :=
  match s.params.simulOrder with
  | .timerFirst => edgePart (timerState s)
  | .edgeFirst => if edgeRearms s then edgePart s else timerState (edgePart s)

theorem handlers_eq (s : State) : handlers s = .next (handlersState s) := by
  unfold handlers handlersState
  cases s.params.simulOrder
  · simp [timerPart_eq]
  · dsimp only
    split
    · rfl
    · exact timerPart_eq _

/-- The state a tick leaves. -/
def tickState (s : State) : State := followLine (handlersState (countUp s))

theorem tick_eq (s : State) : tick s = .next (tickState s) := by
  simp [tick, handlers_eq, tickState]

theorem tickWith_eq (i : TickInput) (s : State) : tickWith i s = .next (tickState (samplePorts i s)) := tick_eq _

end Sys2Proof.Machine
end

