-- ==== Sys2Proof/Laws/PerInstr.lean ====
section
/-! SUPPORT. One law per instruction: the byte it is encoded in has no other meaning. -/

namespace Sys2Proof.Laws.Decodes

/-- The byte of a well-formed instruction decodes to it. -/
def Statement (i : Instr) : Prop := i.wf = true → decodeByte (encodeByte i) = i

theorem searchRom : Statement .searchRom := fun _ => rfl
theorem matchRom : Statement .matchRom := fun _ => rfl
theorem skipRom : Statement .skipRom := fun _ => rfl
theorem readRom : Statement .readRom := fun _ => rfl
theorem alarmSearch : Statement .alarmSearch := fun _ => rfl
theorem unknown (value : Byte) : Statement (.unknown value) := by
  intro h
  simp [Instr.wf, definedOpcodes] at h
  simp [encodeByte, decodeByte, h]

end Sys2Proof.Laws.Decodes
end

