-- ==== Sys2Proof/Laws/Tick.lean ====
section
/-! SUPPORT. What a tick comes down to when its timer part or its edge part has nothing to do, and what its parts leave alone. -/

namespace Sys2Proof.Machine

/-- A step whose event is a tick. -/
theorem step_tick {s : State} {i : TickInput} {rest : List Event} (h : s.events = .tick i :: rest) :
    step s = .next (tickState (samplePorts i (takeEvent s))) := by
  simp [step, nextEvent, h, applyEvent, tickWith_eq]

/-- A step whose event is a power-on reset. -/
theorem step_rst {s : State} {rest : List Event} (h : s.events = .rst :: rest) : step s = .next (powerOnReset (takeEvent s)) := by
  simp [step, nextEvent, h, applyEvent]

/-! ### The edge part -/

theorem edgePart_steady {s : State} (h : s.lineIn = s.linePrev) : edgePart s = s := by
  simp [edgePart, fallingSeen, risingSeen, h]

theorem edgePart_falling {s : State} (h₁ : s.linePrev = true) (h₂ : s.lineIn = false) : edgePart s = fallingEdge s := by
  simp [edgePart, fallingSeen, h₁, h₂]

theorem edgePart_rising {s : State} (h₁ : s.linePrev = false) (h₂ : s.lineIn = true) : edgePart s = risingEdge s := by
  simp [edgePart, fallingSeen, risingSeen, h₁, h₂]

/-- The edge part never writes the identity, the parameters, the ports, the line's history or the events. -/
theorem edgePart_frame (s : State) :
    (edgePart s).id = s.id ∧ (edgePart s).params = s.params ∧ (edgePart s).lineIn = s.lineIn ∧
    (edgePart s).alarmCondition = s.alarmCondition ∧ (edgePart s).reply = s.reply ∧ (edgePart s).call = s.call ∧
    (edgePart s).linePrev = s.linePrev ∧ (edgePart s).events = s.events ∧ (edgePart s).steps = s.steps := by
  rcases edgePart_cases s with ⟨_, e⟩ | ⟨_, _, e⟩ | ⟨_, _, e⟩
  · rw [e]; simp
  · rw [e]; rcases fallingEdge_cases s with ⟨_, f⟩ | ⟨_, f⟩ | ⟨_, f⟩ | ⟨_, f⟩ <;> rw [f] <;> simp
  · rw [e]; rcases risingEdge_cases s with f | ⟨_, _, _, f⟩ | ⟨_, _, _, f⟩ <;> rw [f] <;> simp

/-- An edge handler that does not call `schedule_after` leaves the timer as it was. -/
theorem edgePart_timer_of_not_rearms {s : State} (h : edgeRearms s = false) :
    (edgePart s).cnt = s.cnt ∧ (edgePart s).cmp = s.cmp ∧ (edgePart s).dlArmed = s.dlArmed ∧ (edgePart s).dlMatched = s.dlMatched := by
  rw [edgeRearms] at h
  rcases edgePart_cases s with ⟨_, e⟩ | ⟨h₁, h₂, e⟩ | ⟨h₁, h₂, e⟩
  · rw [e]; exact ⟨rfl, rfl, rfl, rfl⟩
  · rw [edgePart_falling (s := disarm s) h₁ h₂] at h
    rcases fallingEdge_cases s with ⟨hp, _⟩ | ⟨hp, _⟩ | ⟨hp, _⟩ | ⟨_, f⟩
    · simp [fallingEdge, hp] at h
    · simp [fallingEdge, hp] at h
    · simp [fallingEdge, hp] at h
    · rw [e, f]; exact ⟨rfl, rfl, rfl, rfl⟩
  · rw [edgePart_rising (s := disarm s) h₁ h₂] at h
    rcases risingEdge_cases s with f | ⟨_, _, _, f⟩ | ⟨hp, hr, hc, _⟩
    · rw [e, f]; exact ⟨rfl, rfl, rfl, rfl⟩
    · rw [e, f]; exact ⟨rfl, rfl, rfl, rfl⟩
    · rw [risingEdge, if_pos ⟨hp, hr⟩, if_neg (by rw [pulseRejected_iff, disarm_cnt]; omega)] at h
      split at h
      · simp at h
      · rename_i hx
        rw [pulseAccepted_iff, disarm_cnt] at hx
        rw [deadZone, if_pos (show (disarm s).params.deadzoneAccept = true by rcases hc with hc | hc; omega; exact hc.1)] at h
        simp at h

/-! ### What the commands and the handlers leave alone -/

/-- The timer, the edge detector, the line, the ports, the identity, the parameters and the events are the same. -/
structure SameAround (s t : State) : Prop where
  cnt : t.cnt = s.cnt
  cmp : t.cmp = s.cmp
  dlArmed : t.dlArmed = s.dlArmed
  riseEn : t.riseEn = s.riseEn
  linePrev : t.linePrev = s.linePrev
  driveLow : t.driveLow = s.driveLow
  id : t.id = s.id
  lineIn : t.lineIn = s.lineIn
  alarmCondition : t.alarmCondition = s.alarmCondition
  reply : t.reply = s.reply
  params : t.params = s.params
  dlMatched : t.dlMatched = s.dlMatched
  events : t.events = s.events
  steps : t.steps = s.steps

theorem SameAround.trans {s t u : State} (a : SameAround s t) (b : SameAround t u) : SameAround s u :=
  ⟨b.1.trans a.1, b.2.trans a.2, b.3.trans a.3, b.4.trans a.4, b.5.trans a.5, b.6.trans a.6, b.7.trans a.7, b.8.trans a.8,
    b.9.trans a.9, b.10.trans a.10, b.11.trans a.11, b.12.trans a.12, b.13.trans a.13, b.14.trans a.14⟩

theorem sameAround_advance (s : State) : SameAround s (advance s) := by
  rcases advance_cases s with ⟨_, h⟩ | ⟨_, h⟩ <;> rw [h] <;> constructor <;> rfl

theorem sameAround_matchBit (s : State) : SameAround s (matchBit s) := by
  rcases matchBit_cases s with ⟨_, h⟩ | ⟨_, _, ⟨_, h⟩ | ⟨_, h⟩⟩ <;> rw [h]
  · constructor <;> rfl
  · constructor <;> rfl
  · exact sameAround_advance s

theorem sameAround_searchBit (s : State) : SameAround s (searchBit s) := by
  rcases searchBit_cases s with ⟨_, ⟨_, h⟩ | ⟨_, _, h⟩ | ⟨_, _, h⟩⟩ | ⟨_, ⟨_, h⟩ | ⟨_, h⟩⟩ <;> rw [h]
  · constructor <;> rfl
  · constructor <;> rfl
  · exact (sameAround_advance s).trans (by constructor <;> rfl)
  · constructor <;> rfl
  · constructor <;> rfl

theorem sameAround_readRomBit (s : State) : SameAround s (readRomBit s) := by
  rcases readRomBit_cases s with ⟨_, h⟩ | ⟨_, ⟨_, h⟩ | ⟨_, h⟩⟩ <;> rw [h]
  · constructor <;> rfl
  · constructor <;> rfl
  · exact (sameAround_advance s).trans (by constructor <;> rfl)

theorem sameAround_exec (i : Instr) (s : State) : SameAround s (execState i s) := by
  cases i <;> simp only [execState] <;> split <;>
    first | exact sameAround_matchBit s | exact sameAround_searchBit s | exact sameAround_readRomBit s | (constructor <;> rfl) | skip
  split <;> constructor <;> rfl

theorem sameAround_receive (s : State) : SameAround s (receiveState s) := by
  unfold receiveState
  split
  · constructor <;> rfl
  · split
    · exact SameAround.trans (by constructor <;> rfl) (sameAround_exec _ _)
    · constructor <;> rfl

theorem sameAround_bridge (s : State) : SameAround s (bridge s) := by
  unfold bridge
  split
  · rcases bridgeReceive_cases s with ⟨_, h⟩ | ⟨_, u, hu, ⟨_, h⟩ | ⟨_, h⟩⟩ <;> rw [h] <;> (try subst hu) <;> constructor <;> rfl
  · obtain ⟨u, ⟨_, hu⟩ | ⟨_, hu⟩, h⟩ := bridgeTransmit_cases s <;> rw [h] <;> subst hu <;> constructor <;> rfl

/-- The dispatcher writes none of them. -/
theorem sameAround_process (s : State) : SameAround s (processState s) := by
  unfold processState
  split
  · exact sameAround_bridge s
  · split
    · exact sameAround_receive s
    · exact sameAround_exec _ s

/-- What the whole timer part leaves alone. -/
structure SameOutside (s t : State) : Prop where
  riseEn : t.riseEn = s.riseEn
  linePrev : t.linePrev = s.linePrev
  id : t.id = s.id
  lineIn : t.lineIn = s.lineIn
  alarmCondition : t.alarmCondition = s.alarmCondition
  reply : t.reply = s.reply
  params : t.params = s.params
  events : t.events = s.events
  steps : t.steps = s.steps

theorem sameOutside_arm (s : State) : SameOutside s (armState s) := by
  have h := sameAround_process (releaseLine s)
  unfold armState
  cases s.pstate <;> simp only [] <;>
    first | (constructor <;> rfl) | exact ⟨h.4, h.5, h.7, h.8, h.9, h.10, h.11, h.13, h.14⟩

theorem sameOutside_deadline (s : State) : SameOutside s (deadlineState s) := by
  have h := sameOutside_arm (disarm s)
  unfold deadlineState
  split
  · split
    · exact ⟨h.1, h.2, h.3, h.4, h.5, h.6, h.7, h.8, h.9⟩
    · constructor <;> rfl
  · constructor <;> rfl

theorem sameOutside_timer (s : State) : SameOutside s (timerState s) := by
  have h := sameOutside_deadline s
  unfold timerState
  rcases watchdogPart_cases s.cnt (deadlineState s) with ⟨_, e⟩ | ⟨_, e⟩ <;> rw [e]
  · exact ⟨h.1, h.2, h.3, h.4, h.5, h.6, h.7, h.8, h.9⟩
  · exact h

/-! ### Ticks with one part only -/

/-- A tick without a timer event is its edge part, in either order. -/
theorem handlersState_no_timer {s : State} (h₁ : deadlineDue s = false) (h₂ : s.cnt ≠ 500) : handlersState s = edgePart s := by
  have key : ∀ t : State, deadlineDue t = false → t.cnt ≠ 500 → timerState t = t := by
    intro t a b; simp [timerState, deadlineState, a, watchdogPart, b]
  unfold handlersState
  cases s.params.simulOrder <;> simp only []
  · rw [key s h₁ h₂]
  · split
    · rfl
    · rename_i h
      obtain ⟨a, b, c, d⟩ := edgePart_timer_of_not_rearms (s := s) (by simpa using h)
      refine key _ ?_ (by rw [a]; exact h₂)
      rw [← h₁]; simp [deadlineDue, a, b, c, d, (edgePart_frame s).2.1]

/-- A tick without an edge is its timer part, in either order. -/
theorem handlersState_no_edge {s : State} (h : s.lineIn = s.linePrev) : handlersState s = timerState s := by
  have k := sameOutside_timer s
  unfold handlersState
  cases s.params.simulOrder <;> simp only []
  · exact edgePart_steady (by rw [k.lineIn, k.linePrev, h])
  · rw [edgePart_steady h]
    split
    · rename_i h₂
      rw [edgeRearms, edgePart_steady (by simpa using h)] at h₂
      simp at h₂
    · rfl

/-- A rising edge that is not enabled does nothing (R110). -/
theorem edgePart_not_enabled {s : State} (h₁ : s.linePrev = false) (h₂ : s.lineIn = true) (h₃ : s.riseEn = false) : edgePart s = s := by
  rw [edgePart_rising h₁ h₂, risingEdge, if_neg (by simp [h₃])]

/-- A tick whose only edge is a rising one that is not enabled is its timer part, in either order. -/
theorem handlersState_not_enabled {s : State} (h₁ : s.linePrev = false) (h₂ : s.lineIn = true) (h₃ : s.riseEn = false) :
    handlersState s = timerState s := by
  have k := sameOutside_timer s
  unfold handlersState
  cases s.params.simulOrder <;> simp only []
  · exact edgePart_not_enabled (by rw [k.linePrev, h₁]) (by rw [k.lineIn, h₂]) (by rw [k.riseEn, h₃])
  · rw [edgePart_not_enabled h₁ h₂ h₃, edgeRearms, edgePart_not_enabled (s := disarm s) h₁ h₂ h₃]; rfl

/-- A deadline event inside its window, in a tick without a watchdog event. -/
theorem timerState_due {s : State} (h₁ : deadlineDue s = true) (h₂ : inWindow s = true) (h₃ : s.cnt ≠ 500) :
    timerState s = armState (disarm s) := by
  have h₂ : inWindow (disarm s) = true := h₂
  simp [timerState, deadlineState, h₁, h₂, watchdogPart, h₃]

/-- A timer part without an event. -/
theorem timerState_none {s : State} (h₁ : deadlineDue s = false) (h₂ : s.cnt ≠ 500) : timerState s = s := by
  simp [timerState, deadlineState, h₁, watchdogPart, h₂]

/-- A watchdog event, in a tick without a deadline event. -/
theorem timerState_watchdog {s : State} (h₁ : deadlineDue s = false) (h₂ : s.cnt = 500) : timerState s = watchdogHandler s := by
  simp [timerState, deadlineState, h₁, watchdogPart, h₂]

end Sys2Proof.Machine
end

