-- ==== Sys2Proof/Laws/Slots.lean ====
section
/-! SUPPORT. One slot after another, and one bit after another: the steps an induction over a command takes. -/

namespace Sys2Proof.Machine

theorem slotDeadlines_cons (b : Bool) (bs : List Bool) (s : State) :
    slotDeadlines (b :: bs) s = slotDeadlines bs (armState { s with lineIn := b }) := by
  rw [slotDeadlines, deadlineArm_eq]; rfl

theorem slotDeadlines_append (as bs : List Bool) (s : State) :
    slotDeadlines (as ++ bs) s = andThen (slotDeadlines as s) (slotDeadlines bs) := by
  induction as generalizing s with
  | nil => rfl
  | cons a as ih => rw [List.cons_append, slotDeadlines_cons, slotDeadlines_cons, ih]

theorem sentBits_succ (n : Nat) (s : State) : sentBits (n + 1) s = s.readVal :: sentBits n (armState s) := by
  rw [sentBits, deadlineArm_eq]

theorem runSteps_zero (s : State) : runSteps 0 s = .next s := rfl

theorem runSteps_succ (n : Nat) {s t : State} (h : step s = .next t) : runSteps (n + 1) s = runSteps n t := by
  have h' : Sys2Proof.core.step s = .next t := h
  refine (Host.Core.run.eq_2 Sys2Proof.core s n).trans ?_
  rw [h']; rfl

/-! ### Ticks in the words of the statements -/

theorem started_due (i : TickInput) (s : State) : deadlineDue (started i s) = true ↔ DeadlineNext s := deadlineDue_iff _

theorem started_inWindow (i : TickInput) (s : State) : inWindow (disarm (started i s)) = true ↔ WindowNext s := inWindow_iff _

theorem step_started {s : State} {i : TickInput} {rest : List Event} (h : s.events = .tick i :: rest) :
    step s = .next (followLine (handlersState (started i s))) := step_tick h

/-- A tick in which no edge acts is its timer part. -/
theorem step_no_edge {s : State} {i : TickInput} {rest : List Event} (h : s.events = .tick i :: rest) (hl : NoEdgeActs i s) :
    step s = .next (followLine (timerState (started i s))) := by
  rw [step_started h]
  rcases hl with hl | ⟨⟨h₁, h₂⟩, h₃⟩
  · rw [handlersState_no_edge (s := started i s) hl]
  · rw [handlersState_not_enabled (s := started i s) h₁ h₂ h₃]

/-- A tick in which nothing happens only counts and follows the line. -/
theorem step_quiet {s : State} {i : TickInput} {rest : List Event} (h : s.events = .tick i :: rest) (hl : NoEdgeActs i s)
    (hd : ¬ DeadlineNext s) (hw : ¬ WatchdogNext s) : step s = .next (followLine (started i s)) := by
  rw [step_no_edge h hl, timerState_none (by simpa using mt (started_due i s).1 hd) hw]

/-- One tick on a line that keeps its level, before the compare value and away from the watchdog's count. -/
theorem step_counts {s : State} {i : TickInput} {rest : List Event} (h : s.events = .tick i :: rest)
    (hl : lineLevel i.release s = s.linePrev) (hm : s.dlMatched = false) (ha : s.dlArmed = true → s.cnt + 1 < s.cmp)
    (hc : s.cnt + 1 < 2 ^ s.params.cntWidth) (hw : s.cnt + 1 ≠ 500) :
    step s = .next { s with
      cnt := s.cnt + 1, lineIn := s.linePrev, alarmCondition := i.alarm, reply := i.reply, call := none, events := rest,
      steps := s.steps + 1 } := by
  have hn : nextCount s = s.cnt + 1 := Nat.mod_eq_of_lt hc
  have hm' : nextMatched s = false := by
    rw [← Bool.not_eq_true, nextMatched_iff, hn, hm]
    rintro (h | ⟨h₁, h₂⟩)
    · cases h
    · exact absurd h₂ (by have := ha h₁; omega)
  have hd : ¬ DeadlineNext s := fun ⟨_, h, _⟩ => by rw [hm'] at h; cases h
  have h₁ : nextCount (samplePorts i (takeEvent s)) = nextCount s := rfl
  have h₂ : nextMatched (samplePorts i (takeEvent s)) = nextMatched s := rfl
  have h₃ : lineLevel i.release (takeEvent s) = s.linePrev := hl
  rw [step_quiet h (.inl hl) hd (by rw [WatchdogNext, hn]; exact hw)]
  congr 1
  apply State.ext <;> simp [started, h₁, h₂, h₃, hn, hm', hm, h]

/-- `n + 1` such ticks. -/
theorem runSteps_quiet (last : TickInput) (inputs : List TickInput) : ∀ (s : State) (rest : List Event),
    s.events = inputs.map Event.tick ++ .tick last :: rest → (∀ i ∈ inputs, lineLevel i.release s = s.linePrev) →
    lineLevel last.release s = s.linePrev → s.dlMatched = false → (s.dlArmed = true → s.cnt + inputs.length + 1 < s.cmp) →
    s.cnt + inputs.length + 1 < 2 ^ s.params.cntWidth → (s.cnt + inputs.length + 1 < 500 ∨ 500 ≤ s.cnt) →
    runSteps (inputs.length + 1) s = .next { s with
      cnt := s.cnt + inputs.length + 1, lineIn := s.linePrev, alarmCondition := last.alarm, reply := last.reply, call := none,
      events := rest, steps := s.steps + inputs.length + 1 } := by
  induction inputs with
  | nil =>
    intro s rest he _ hl hm ha hc hw
    exact (runSteps_succ 0 (step_counts he hl hm ha hc (by simp only [List.length_nil] at hw; omega))).trans rfl
  | cons i inputs ih =>
    intro s rest he hi hl hm ha hc hw
    simp only [List.length_cons] at ha hc hw
    have hi' := List.forall_mem_cons.1 hi
    rw [List.length_cons, runSteps_succ (inputs.length + 1)
      (step_counts (rest := inputs.map Event.tick ++ .tick last :: rest) he hi'.1 hm (fun h => by have := ha h; omega) (by omega)
        (by omega))]
    refine (ih { s with
      cnt := s.cnt + 1, lineIn := s.linePrev, alarmCondition := i.alarm, reply := i.reply, call := none,
      events := inputs.map Event.tick ++ .tick last :: rest, steps := s.steps + 1 }
      rest rfl hi'.2 hl hm (fun h => ?_) ?_ ?_).trans ?_
    · have := ha h; show s.cnt + 1 + inputs.length + 1 < s.cmp; omega
    · show s.cnt + 1 + inputs.length + 1 < 2 ^ s.params.cntWidth; omega
    · show s.cnt + 1 + inputs.length + 1 < 500 ∨ 500 ≤ s.cnt + 1; omega
    · congr 1
      apply State.ext <;> simp <;> omega

/-! ### The bits of a slot -/

/-- In a slot's deadline the line is released and the bit dispatched. -/
theorem armState_slot {s : State} (h : s.pstate = .write ∨ s.pstate = .read) : armState s = processState (releaseLine s) := by
  unfold armState; rcases h with h | h <;> rw [h]

/-- The master assembles the bits of a byte in wire order into that byte (R43, R75). -/
theorem bitsValue_wireBits (b : Byte) : BitVec.ofNat 8 (bitsValue (wireBits b)) = b := by revert b; decide

theorem slotValues_readSlot (words : List Stimulus) (line : List Bool) :
    slotValues (.readSlot :: words) line = slotValue line :: slotValues words (line.drop 70) := rfl

/-- The two results of a search triple are those of its two read slots. -/
theorem searchTripleValue_eq (d : Bool) (line : List Bool) :
    searchTripleValue d line = (slotValue line, slotValue (line.drop 70)) := by cases d <;> rfl

/-- `ShiftIn`, bit by bit. -/
theorem shiftIn_bit (b : Bool) (c : Byte) (k : Nat) :
    (BitVec.ofBool b ++ c.extractLsb' 1 7 : BitVec 8).getLsbD k =
      if k = 7 then b else if k < 7 then c.getLsbD (k + 1) else false := by
  rw [BitVec.getLsbD_append]
  by_cases h : k < 7
  · simp [h, show k ≠ 7 by omega, Nat.add_comm]
  · by_cases h₇ : k = 7
    · subst h₇; simp
    · simp [h, h₇]; omega

end Sys2Proof.Machine
end

