-- ==== Sys2Proof/Tests/Slice0.lean ====
section
/-! SUPPORT. The model's own tests: the refusals of the well-formedness check, words written out from 30_encoding.md, single steps with
results taken from 95_test_vectors.md, and for each statement a witness that meets its hypotheses. -/

namespace Sys2Proof.Tests

open Sys2Proof.Machine

/-! ### Small states -/

/-- `ID_A` of 95_test_vectors.md. -/
def idA : Identity := #v[0xC4#8, 0x06#8, 0x05#8, 0x04#8, 0x03#8, 0x02#8, 0x01#8, 0xF0#8]

/-- `ID_B` of 95_test_vectors.md. -/
def idB : Identity := #v[0x00#8, 0x06#8, 0x05#8, 0x04#8, 0x03#8, 0x02#8, 0x01#8, 0xF1#8]

/-- A tick with a silent application. -/
def quiet (release : Bool) : TickInput := { release := release, alarm := false, reply := AppReply.silent }

/-- The engine after reset with identity `ID_A`, and one tick to come. -/
def engine (release : Bool) : State := { State.reset with id := idA, events := [.tick (quiet release)] }

/-- In the ROM phase or after it, with the cursor at `(i, k)`. -/
def inCommand (p : PState) (command : Byte) (matched : Bool) (i k : Cursor) (release : Bool) : State :=
  { engine release with pstate := p, romCommand := command, romMatched := matched, idIndex := i, bitCount := k }

/-- With a deadline `ticks` ahead. -/
def due (ticks : Nat) (s : State) : State := { s with cnt := armedValue s - ticks, cmp := armedValue s, dlArmed := true }

/-- A question about the state a step leaves. -/
def leaves (r : Result) (q : State → Bool) : Bool :=
  match r with
  | .next s => q s
  | _ => false

/-! ### Well-formed instructions -/

theorem test_wf_refuses_defined_opcodes :
    Instr.wf (.unknown 0xF0#8) = false ∧ Instr.wf (.unknown 0x55#8) = false ∧ Instr.wf (.unknown 0xCC#8) = false ∧
    Instr.wf (.unknown 0x33#8) = false ∧ Instr.wf (.unknown 0xEC#8) = false := by decide

theorem test_wf_accepts_other_bytes : Instr.wf (.unknown 0x00#8) = true ∧ Instr.wf (.unknown 0x0F#8) = true := by decide

/-! ### Words written out bit by bit (the opcode map of 30_encoding.md) -/

theorem test_decode_searchRom : decode [0b1111_0000#8] = .ok (.searchRom, []) := by rfl
theorem test_decode_matchRom : decode [0b0101_0101#8] = .ok (.matchRom, []) := by rfl
theorem test_decode_skipRom : decode [0b1100_1100#8] = .ok (.skipRom, []) := by rfl
theorem test_decode_readRom : decode [0b0011_0011#8] = .ok (.readRom, []) := by rfl
theorem test_decode_alarmSearch : decode [0b1110_1100#8] = .ok (.alarmSearch, []) := by rfl
theorem test_decode_unknown : decode [0b0001_0010#8] = .ok (.unknown 0x12#8, []) := by rfl
theorem test_decode_zero_is_unknown : decode [0b0000_0000#8] = .ok (.unknown 0x00#8, []) := by rfl
theorem test_decode_no_byte : decode [] = .error .noCommandByte := by rfl
theorem test_decode_leaves_the_rest : decode [0xCC#8, 0xF0#8] = .ok (.skipRom, [0xF0#8]) := by rfl

theorem test_decodeTableWord :
    decodeTableWord 8 0b11110000 = some .searchRom ∧ decodeTableWord 8 0b01010101 = some .matchRom ∧
    decodeTableWord 8 0b11001100 = some .skipRom ∧ decodeTableWord 8 0b00110011 = some .readRom ∧
    decodeTableWord 8 0b11101100 = some .alarmSearch ∧ decodeTableWord 8 0b11111111 = some (.unknown 0xFF#8) := by decide

/-! ### The first step of each command (vectors 2.4), as the first step after reset -/

theorem test_latch_skipRom :
    leaves (step (State.reset.withFetchWord 8 0xCC)) (fun t => t.romMatched && t.pstate == .write && t.romCommand == 0xCC#8 &&
      t.currentByte == 0xCC#8 && t.idIndex == 7#3 && t.bitCount == 0#3 && t.call == some .onSelected) = true := by decide
theorem test_latch_matchRom :
    leaves (step (State.reset.withFetchWord 8 0x55)) (fun t => !t.romMatched && t.pstate == .write && t.romCommand == 0x55#8 &&
      t.currentByte == 0x55#8 && t.idIndex == 7#3 && t.bitCount == 0#3 && t.call == none) = true := by decide
theorem test_latch_searchRom_idB :
    leaves (step ({ State.reset with id := idB }.withFetchWord 8 0xF0)) (fun t => t.pstate == .read && t.readVal &&
      t.romCommand == 0xF0#8 && t.idIndex == 7#3 && t.bitCount == 0#3) = true := by decide
theorem test_latch_readRom_idA :
    leaves (step ((engine true).withFetchWord 8 0x33)) (fun t => t.pstate == .read && !t.readVal && t.romCommand == 0x33#8) = true := by
  decide
theorem test_latch_alarmSearch_gate :
    leaves (step (State.reset.withFetchWord 8 0xEC)) (fun t => t.pstate == .idle && t.romCommand == 0xEC#8 && t.idIndex == 7#3) = true ∧
    leaves (step ({ engine true with alarmCondition := true }.withFetchWord 8 0xEC)) (fun t => t.pstate == .read && !t.readVal) = true := by
  decide
theorem test_latch_unknown :
    leaves (step (State.reset.withFetchWord 8 0x12)) (fun t => t.pstate == .idle && t.romCommand == 0x12#8 && t.currentByte == 0x12#8) =
      true ∧
    leaves (step (State.reset.withFetchWord 8 0x00)) (fun t => t.pstate == .idle && t.romCommand == 0x00#8 && t.idIndex == 7#3) = true := by
  decide

/-! ### Later bits of the commands -/

/-- Vectors 2.5: wire bit 15 of `ID_C` is 1, of `ID_A` 0; the cursor stays on the mismatch. -/
theorem test_matchRom_mismatch_on_wire_bit_15 :
    leaves (exec .matchRom { inCommand .write 0x55#8 false 6#3 7#3 true with lineIn := true })
      (fun t => t.pstate == .idle && !t.romMatched && t.idIndex == 6#3 && t.bitCount == 7#3) = true := by decide
/-- Vectors 2.7: with `ID_B` the direction 1 matches wire bit 0 and loads wire bit 1, which is 0. -/
theorem test_searchRom_direction :
    leaves (exec .searchRom { inCommand .write 0xF0#8 false 7#3 0#3 true with id := idB, lineIn := true, readVal := true })
      (fun t => t.pstate == .read && !t.readVal && t.idIndex == 7#3 && t.bitCount == 1#3) = true := by decide
/-- Vectors 2.6: the 64th read slot selects, turns to `Write` and keeps the last bit sent. -/
theorem test_readRom_last_bit :
    leaves (exec .readRom { inCommand .read 0x33#8 false 0#3 7#3 true with readVal := true })
      (fun t => t.pstate == .write && t.romMatched && t.idIndex == 0#3 && t.bitCount == 0#3 && t.readVal && t.call == some .onSelected) =
      true := by decide
/-- Vectors 2.10: a write slot met in `Read` is a read slot. -/
theorem test_bridge_send_steps_the_bit :
    leaves (.next (bridge (inCommand .read 0xCC#8 true 7#3 0#3 true))) (fun t => t.bitCount == 1#3 && t.pstate == .read) = true := by
  decide
/-- Program P1: `0xBB` starts the reference application's stream at 0, and every byte sent steps it. -/
theorem test_counterApp :
    (counterApp.answer 9#8 (.onByteReceived 0xBB#8)) = (0#8, { wantTransmit := true, staged := some 0#8 }) ∧
    (counterApp.answer 0#8 .onByteSent) = (1#8, { wantTransmit := false, staged := some 1#8 }) := by decide

/-! ### The timer, edges and the line -/

/-- Vectors 2.3: the window guard with `cmp = 40`. -/
theorem test_window :
    inWindow { State.reset with cmp := 40, cnt := 37 } = false ∧ inWindow { State.reset with cmp := 40, cnt := 38 } = true ∧
    inWindow { State.reset with cmp := 40, cnt := 50 } = true ∧ inWindow { State.reset with cmp := 40, cnt := 51 } = false := by decide
/-- Vectors 2.3: the 40th tick samples a high line. -/
theorem test_sample_in_the_40th_tick :
    leaves (step (due 1 (inCommand .write 0x00#8 false 0#3 0#3 true))) (fun t => t.cnt == 40 && !t.dlArmed && t.bitCount == 1#3 &&
      t.currentByte == 0x80#8) = true := by decide
/-- R83, R84: with the wide timeout 65535 and a latency of 2 the counter passes 1 without an event; the handler starts two ticks after
the match, past the wrap. -/
theorem test_latency_starts_at_the_match :
    let late := { engine true with cmp := 65535, dlArmed := true, params := { Params.default with deadlineLatency := 2 } }
    leaves (step late) (fun t => t.cnt == 1 && t.dlArmed) = true ∧
    leaves (step { late with cnt := 65534 }) (fun t => t.cnt == 65535 && t.dlArmed && t.dlMatched) = true ∧
    leaves (step { late with cnt := 0, dlMatched := true }) (fun t => t.cnt == 1 && !t.dlArmed && !t.dlMatched) = true := by decide
/-- Landmark 0 of vectors 2.2. -/
theorem test_falling_edge_in_idle :
    leaves (step (engine false)) (fun t => t.pstate == .idle && t.cnt == 0 && t.cmp == 65535 && t.dlArmed && t.riseEn) = true := by decide
/-- R105, landmark 511 of vectors 2.2: an engine that drives the line sees it low. -/
theorem test_own_drive_pulls_the_line :
    leaves (step { engine true with driveLow := true, pstate := .presencePulse }) (fun t => !t.lineIn) = true := by decide
/-- R75, R76: `W0 R` on the line, and its run lengths. -/
theorem test_stimulus :
    runLengths ([Stimulus.writeSlot false, .readSlot].flatMap Stimulus.levels) = [(false, 60), (true, 10), (false, 6), (true, 64)] := by
  decide

/-- The line in a read slot answered with a bit: `L51 H19` or `L6 H64` (R76). -/
def answered (bit : Bool) : List Bool := if bit then hold false 6 ++ hold true 64 else hold false 51 ++ hold true 19

/-- R75: the first slot of `RBYTE` is bit 0, the eighth bit 7. -/
theorem test_readByteValue :
    readByteValue ([false, true, true, false, true, false, false, true].flatMap answered) = 0x96#8 := by decide
/-- R75: the value of `SBIT` is the pair of read results, whatever the direction. -/
theorem test_searchTripleValue :
    searchTripleValue false (answered false ++ answered true ++ (Stimulus.writeSlot false).levels) = (false, true) ∧
    searchTripleValue true (answered true ++ answered false ++ (Stimulus.writeSlot true).levels) = (true, false) := by decide

/-! ### Witnesses: states and operands that meet the hypotheses of the statements, clause by clause -/

theorem witness_CommandByteRoundTrip : Instr.wf .skipRom = true ∧ Instr.wf (.unknown 0x00#8) = true := by decide

/-- Vectors 2.1: wire bits 0, 4, 8 and 63 of `ID_A`; a cursor at wire bit 0 and one at wire bit 62. -/
theorem witness_IdentityWireOrder :
    idWireBit idA 0 = false ∧ idWireBit idA 4 = true ∧ idWireBit idA 8 = true ∧ idWireBit idA 63 = true ∧
    lastBit (inCommand .read 0x33#8 false 7#3 0#3 true) = false ∧ lastBit (inCommand .read 0x33#8 false 0#3 6#3 true) = false ∧
    wirePosition (inCommand .read 0x33#8 false 0#3 6#3 true) = 62 := by decide

theorem witness_PowerOnResetEvent : { engine true with events := [.rst] }.events = .rst :: [] := by decide

/-- A selected engine in the last tick before a sample. -/
theorem witness_StepKeepsInvariant :
    Inv (due 1 (inCommand .write 0xCC#8 true 7#3 3#3 true)) ∧ ∃ t, step (due 1 (inCommand .write 0xCC#8 true 7#3 3#3 true)) = .next t :=
  ⟨by constructor <;> decide, _, rfl⟩

theorem witness_FallingEdgeInIdle :
    (engine false).events = .tick (quiet false) :: [] ∧ (engine false).pstate = .idle ∧ LineFalls (quiet false) (engine false) ∧
    ¬ DeadlineNext (engine false) ∧ ¬ WatchdogNext (engine false) := by decide

/-- An older wide timeout runs out in the tick of the falling edge; both orders. -/
theorem witness_FallingEdgeInIdle_timeout (order : SimulOrder) :
    let s := { due 1 (engine false) with params := { Params.default with simulOrder := order } }
    s.events = .tick (quiet false) :: [] ∧ s.pstate = .idle ∧ LineFalls (quiet false) s ∧ DeadlineNext s ∧ ¬ WatchdogNext s := by
  cases order <;> decide

/-- The first command slot. -/
def writeIdle : State := inCommand .write 0x00#8 false 0#3 0#3 false

theorem witness_FallingEdgeInWrite :
    writeIdle.events = .tick (quiet false) :: [] ∧ writeIdle.pstate = .write ∧ LineFalls (quiet false) writeIdle ∧
    ¬ DeadlineNext writeIdle ∧ ¬ WatchdogNext writeIdle := by decide

/-- A slot of Read ROM. -/
def readIdle : State := inCommand .read 0x33#8 false 7#3 0#3 false

theorem witness_FallingEdgeInRead :
    readIdle.events = .tick (quiet false) :: [] ∧ readIdle.pstate = .read ∧ LineFalls (quiet false) readIdle ∧
    ¬ DeadlineNext readIdle ∧ ¬ WatchdogNext readIdle := by decide

theorem witness_OtherEdgesDoNothing_falling :
    let s := { engine false with pstate := .presencePulse, cmp := 70, dlArmed := true }
    ¬ DeadlineNext s ∧ ¬ WatchdogNext s ∧ LineFalls (quiet false) s := by decide
theorem witness_OtherEdgesDoNothing_rising :
    let s := { engine true with pstate := .write, linePrev := false }
    ¬ DeadlineNext s ∧ ¬ WatchdogNext s ∧ LineRises (quiet true) s ∧ s.riseEn = false := by decide

/-- A steady line between two command slots with the counter stepping onto 100, on a low line, and, with a latency of 2, in the tick of
the match and in the one after it. -/
theorem witness_OtherEdgesDoNothing_steady :
    (let s := { inCommand .write 0x00#8 false 0#3 3#3 true with cnt := 99 }
     s.events = .tick (quiet true) :: [] ∧ ¬ DeadlineNext s ∧ ¬ WatchdogNext s ∧ LineSteady (quiet true) s ∧ nextCount s = 100) ∧
    LineSteady (quiet false) { engine false with linePrev := false } ∧
    (let s := { due 1 (inCommand .write 0x00#8 false 0#3 3#3 true) with params := { Params.default with deadlineLatency := 2 } }
     ¬ DeadlineNext s ∧ ¬ WatchdogNext s ∧ LineSteady (quiet true) s ∧ nextMatched s = true ∧
     ¬ DeadlineNext { s with cnt := 40, dlMatched := true }) := by decide

/-- At the end of a reset pulse of `w` ticks. -/
def pulse (w : Nat) : State := { engine true with cnt := w - 1, cmp := 65535, dlArmed := true, riseEn := true, linePrev := false }

theorem witness_RejectedPulseOnlyDisablesDetection :
    LineRises (quiet true) (pulse 449) ∧ ¬ DeadlineNext (pulse 449) ∧ (pulse 449).riseEn = true ∧ nextCount (pulse 449) < 450 ∧
    LineRises (quiet true) (pulse 511) ∧ ¬ DeadlineNext (pulse 511) ∧ 510 < nextCount (pulse 511) := by decide
/-- The wide timeout runs out in the tick of the rising edge; both orders. -/
theorem witness_RejectedPulseOnlyDisablesDetection_timeout (order : SimulOrder) :
    let s := { pulse 65535 with params := { Params.default with simulOrder := order } }
    s.events = .tick (quiet true) :: [] ∧ s.pstate = .idle ∧ s.riseEn = true ∧ LineRises (quiet true) s ∧ 510 < nextCount s ∧
    DeadlineNext s := by cases order <;> decide
theorem witness_AcceptedPulseStartsPresence :
    LineRises (quiet true) (pulse 471) ∧ (pulse 471).pstate = .idle ∧ (pulse 471).riseEn = true ∧ 470 < nextCount (pulse 471) ∧
    nextCount (pulse 510) ≤ 510 ∧ 470 < nextCount (pulse 510) := by decide
theorem witness_AcceptedPulseStartsPresence_deadZone :
    let s := { pulse 450 with params := { Params.default with deadzoneAccept := true } }
    LineRises (quiet true) s ∧ s.pstate = .idle ∧ s.riseEn = true ∧ s.params.deadzoneAccept = true ∧ 450 ≤ nextCount s ∧
    nextCount s ≤ 470 := by decide
/-- With the watchdog in the same tick, and with a legal wide timeout of 480 ticks in it. -/
theorem witness_AcceptedPulseStartsPresence_timer :
    WatchdogNext (pulse 500) ∧ 470 < nextCount (pulse 500) ∧ nextCount (pulse 500) ≤ 510 ∧
    (let s := { pulse 480 with cmp := 480, params := { Params.default with resetTimeoutCmp := 480 } }
     s.params.Valid ∧ DeadlineNext s ∧ 470 < nextCount s ∧ nextCount s ≤ 510) := by decide
theorem witness_DeadZonePulseHasNoEffect :
    LineRises (quiet true) (pulse 470) ∧ ¬ DeadlineNext (pulse 470) ∧ (pulse 470).params.deadzoneAccept = false ∧
    nextCount (pulse 450) = 450 ∧ nextCount (pulse 470) = 470 := by decide
/-- A legal wide timeout of 460 ticks runs out in the tick of the rising edge. -/
theorem witness_DeadZonePulseHasNoEffect_timeout :
    let s := { pulse 460 with cmp := 460, params := { Params.default with resetTimeoutCmp := 460 } }
    s.params.Valid ∧ LineRises (quiet true) s ∧ DeadlineNext s ∧ nextCount s = 460 := by decide

/-- One tick before a deadline: a quiet high line, and a rising edge in the tick of the sample. -/
theorem witness_DeadlineRunsTheArmOfItsState :
    let s := due 1 (inCommand .write 0x00#8 false 0#3 0#3 true)
    s.events = .tick (quiet true) :: [] ∧ DeadlineNext s ∧ WindowNext s ∧ ¬ WatchdogNext s ∧ NoEdgeActs (quiet true) s ∧
    NoEdgeActs (quiet true) { s with linePrev := false } := by decide
/-- A steady line, and a falling edge. -/
theorem witness_PresencePulseStarts :
    let s := due 1 { engine true with pstate := .presenceWait }
    DeadlineNext s ∧ WindowNext s ∧ ¬ WatchdogNext s ∧ LineSteady (quiet true) s ∧ LineFalls (quiet false) s := by decide
theorem witness_PresencePulseEnds :
    let s := due 1 { engine true with pstate := .presencePulse, driveLow := true, linePrev := false }
    DeadlineNext s ∧ WindowNext s ∧ ¬ WatchdogNext s ∧ NoEdgeActs (quiet true) s := by decide
/-- The wide timeout with a legal latency of 10, past the wrap; a latency of 11, outside the parameter's range. -/
theorem witness_LateDeadlineIsDropped :
    (let s := { engine true with
      cnt := 8, cmp := 65535, dlArmed := true, dlMatched := true, params := { Params.default with deadlineLatency := 10 } }
     s.params.Valid ∧ DeadlineNext s ∧ ¬ WindowNext s ∧ ¬ WatchdogNext s ∧ NoEdgeActs (quiet true) s) ∧
    (let s := { engine true with
      pstate := .write, cnt := 50, cmp := 40, dlArmed := true, dlMatched := true,
      params := { Params.default with deadlineLatency := 11 } }
     DeadlineNext s ∧ ¬ WindowNext s ∧ ¬ WatchdogNext s ∧ NoEdgeActs (quiet true) s) := by decide
/-- One tick before the watchdog, in a state of one's choice, after a high line and with the order of one's choice. -/
def nearWatchdog (p : PState) (order : SimulOrder) : State :=
  { engine true with pstate := p, cnt := 499, cmp := 40, params := { Params.default with simulOrder := order } }

theorem witness_WatchdogForcesIdle :
    WatchdogNext (nearWatchdog .write .timerFirst) ∧ ¬ DeadlineNext (nearWatchdog .write .timerFirst) ∧
    NoEdgeActs (quiet true) (nearWatchdog .write .timerFirst) ∧
    (let s := { nearWatchdog .idle .timerFirst with cmp := 500, dlArmed := true }
     WatchdogNext s ∧ DeadlineNext s ∧ s.pstate = .idle) ∧
    NoEdgeActs (quiet true) { nearWatchdog .read .timerFirst with linePrev := false } := by decide
/-- The watchdog's tick with a falling edge, in every state and both orders. -/
theorem witness_WatchdogForcesIdle_falling (p : PState) (order : SimulOrder) :
    WatchdogNext (nearWatchdog p order) ∧ ¬ DeadlineNext (nearWatchdog p order) ∧ LineFalls (quiet false) (nearWatchdog p order) ∧
    (nearWatchdog p order).pstate = p ∧ (nearWatchdog p order).params.simulOrder = order := by cases p <;> cases order <;> decide
theorem witness_WatchdogFindsLineReleased :
    Inv { inCommand .write 0x55#8 false 7#3 2#3 true with cnt := 499, cmp := 40 } ∧
    WatchdogNext { inCommand .write 0x55#8 false 7#3 2#3 true with cnt := 499, cmp := 40 } :=
  ⟨by constructor <;> decide, by decide⟩

/-- A slot starts: the counter is zeroed. -/
theorem witness_CounterZeroedOnlyAtFivePoints :
    Inv writeIdle ∧ writeIdle.events = .tick (quiet false) :: [] ∧ ∃ t, step writeIdle = .next t ∧ t.cnt = 0 :=
  ⟨by constructor <;> decide, by decide, _, rfl, by decide⟩

/-- Vectors 2.12, the next slot begins in the sample tick: every state, both orders. -/
theorem witness_SlotStartInTheSampleTick (p : PState) (order : SimulOrder) :
    let s := { engine false with
      pstate := p, cnt := 39, cmp := 40, dlArmed := true, params := { Params.default with simulOrder := order } }
    s.events = .tick (quiet false) :: [] ∧ DeadlineNext s ∧ WindowNext s ∧ ¬ WatchdogNext s ∧ LineFalls (quiet false) s ∧
    s.pstate = p ∧ s.params.simulOrder = order := by cases p <;> cases order <;> decide
/-- With the timer first the deadline leaves `Write` (a command bit), `Read` (Search ROM at its latch), `Idle` (a mismatch) and
`PresencePulse`. -/
theorem witness_SlotStartInTheSampleTick_after :
    leaves (deadlineArm (inCommand .write 0x00#8 false 0#3 0#3 false)) (fun u => u.pstate == .write) = true ∧
    leaves (deadlineArm { inCommand .write 0x00#8 false 0#3 7#3 false with lineIn := true, currentByte := 0xE0#8 })
      (fun u => u.pstate == .read) = true ∧
    leaves (deadlineArm { inCommand .write 0x55#8 false 7#3 4#3 false with lineIn := false }) (fun u => u.pstate == .idle) = true ∧
    leaves (deadlineArm { engine false with pstate := .presenceWait }) (fun u => u.pstate == .presencePulse) = true := by decide
theorem witness_SimulOrderMattersOnlyOnCoincidence :
    (¬ DeadlineNext (engine false) ∧ ¬ WatchdogNext (engine false)) ∧ LineSteady (quiet true) (engine true) := by decide

/-- The eighth command slot of `0xCC` carries its last bit 1 (vectors 2.4: `current_byte` 0x98 before it). -/
theorem witness_StepRunsTheDecodedCommand_latch :
    let s := { due 1 (inCommand .write 0x00#8 false 0#3 7#3 true) with currentByte := 0x98#8 }
    DeadlineNext s ∧ WindowNext s ∧ ¬ WatchdogNext s ∧ NoEdgeActs (quiet true) s ∧ s.romMatched = false ∧ s.bitCount = 7#3 ∧
    (BitVec.ofBool (lineLevel true s) ++ s.currentByte.extractLsb' 1 7 : BitVec 8) = 0xCC#8 := by decide
theorem witness_StepRunsTheDecodedCommand_operand :
    let s := due 1 (inCommand .read 0x33#8 false 7#3 0#3 true)
    DeadlineNext s ∧ WindowNext s ∧ ¬ WatchdogNext s ∧ NoEdgeActs (quiet true) s ∧ s.romMatched = false ∧ s.romCommand ≠ 0#8 := by
  decide
theorem witness_FetchedWordIsRunByTheNextStep : State.reset.params.Valid := by decide
theorem witness_EightSlotsRunTheCommand :
    writeIdle.pstate = .write ∧ writeIdle.romMatched = false ∧ writeIdle.romCommand = 0#8 ∧ writeIdle.bitCount = 0#3 := by decide

/-- For `SkipRomSelectsAtTheLatch`, `MatchRomWaitsAtTheLatch`, `SearchAndReadRomLoadTheFirstBit`, `AlarmSearchIsGatedAtTheLatch` (both
values of the flag) and `UnknownCommandDeselects`: `rom_command` is still 0. -/
theorem witness_first_steps :
    writeIdle.romCommand = 0#8 ∧ { writeIdle with alarmCondition := true }.alarmCondition = true ∧ writeIdle.alarmCondition = false := by
  decide

/-- Mismatch and match at wire bits 4, 7 and 63 of `ID_A`. -/
theorem witness_MatchRomComparesOneBit :
    (let s := inCommand .write 0x55#8 false 7#3 4#3 true
     s.romCommand ≠ 0#8 ∧ s.pstate = .write ∧ { s with lineIn := false }.lineIn ≠ idWireBit s.id (wirePosition s) ∧
     { s with lineIn := true }.lineIn = idWireBit s.id (wirePosition s) ∧ s.bitCount ≠ 7#3) ∧
    (let s := inCommand .write 0x55#8 false 7#3 7#3 true
     s.lineIn = idWireBit s.id (wirePosition s) ∧ s.bitCount = 7#3 ∧ s.idIndex ≠ 0#3) ∧
    (let s := inCommand .write 0x55#8 false 0#3 7#3 true
     s.lineIn = idWireBit s.id (wirePosition s) ∧ s.bitCount = 7#3 ∧ s.idIndex = 0#3) := by decide
theorem witness_SearchComparesTheDirection :
    (let s := inCommand .write 0xF0#8 false 7#3 0#3 true
     s.romCommand ≠ 0#8 ∧ s.pstate = .write ∧ s.lineIn ≠ s.readVal) ∧
    (let s := { inCommand .write 0xF0#8 false 0#3 7#3 true with readVal := true }
     s.lineIn = s.readVal ∧ wirePosition s = 63) ∧
    (let s := { inCommand .write 0xEC#8 false 0#3 6#3 true with readVal := true }
     s.lineIn = s.readVal ∧ wirePosition s < 63) := by decide
theorem witness_SearchHalfSlotComplements :
    (let s := inCommand .read 0xF0#8 false 7#3 0#3 true
     s.romCommand ≠ 0#8 ∧ s.pstate = .read ∧ s.readVal = idWireBit s.id (wirePosition s)) ∧
    (let s := { inCommand .read 0xEC#8 false 7#3 0#3 true with readVal := true }
     s.readVal ≠ idWireBit s.id (wirePosition s)) := by decide
theorem witness_SearchTripleSendsBitAndComplement :
    let s := inCommand .read 0xF0#8 false 7#3 0#3 true
    s.pstate = .read ∧ s.romMatched = false ∧ s.romCommand ∈ searchCommands ∧ s.readVal = idBit s := by decide
theorem witness_ReadRomSendsOneBit :
    readIdle.romCommand ≠ 0#8 ∧ readIdle.pstate = .read ∧ wirePosition readIdle < 63 ∧
    wirePosition (inCommand .read 0x33#8 false 0#3 6#3 true) = 62 ∧ wirePosition (inCommand .read 0x33#8 false 0#3 7#3 true) = 63 := by
  decide
theorem witness_UnreachableCombinationsDeselect :
    readIdle.romCommand ≠ 0#8 ∧ readIdle.pstate ≠ .write ∧ (inCommand .write 0x33#8 false 7#3 0#3 true).pstate ≠ .read ∧
    (let s := inCommand .read 0x00#8 false 7#3 0#3 true
     s.romCommand = 0#8 ∧ s.romMatched = false ∧ s.pstate = .read) := by decide
theorem witness_CommandsKeepEverythingElse : ∃ t, exec .skipRom writeIdle = .next t ∧ t.romMatched = true := ⟨_, rfl, rfl⟩

/-- Operand slots of Match ROM at the start of the identity: the identity itself, and 64 ones. -/
theorem witness_MatchRomSelectsIffIdentityMatches :
    let s := inCommand .write 0x55#8 false 7#3 0#3 true
    (idWireBits s.id).length = 64 ∧ s.pstate = .write ∧ s.romMatched = false ∧ s.romCommand = 0x55#8 ∧ s.idIndex = 7#3 ∧
    s.bitCount = 0#3 ∧ (List.replicate 64 true).length = 64 ∧ List.replicate 64 true ≠ idWireBits s.id := by decide
theorem witness_MatchRomStopsAtTheFirstMismatch :
    let s := inCommand .write 0x55#8 false 7#3 0#3 true
    (0 < 64 ∧ 63 < 64) ∧ s.pstate = .write ∧ s.romMatched = false ∧ s.romCommand = 0x55#8 ∧ s.idIndex = 7#3 ∧ s.bitCount = 0#3 := by
  decide
theorem witness_SearchSelectsIffDirectionsMatch :
    let s := inCommand .read 0xEC#8 false 7#3 0#3 true
    ((idWireBits s.id).map fun d => (true, true, d)).length = 64 ∧ s.pstate = .read ∧ s.romMatched = false ∧
    s.romCommand ∈ searchCommands ∧ s.idIndex = 7#3 ∧ s.bitCount = 0#3 ∧ s.readVal = idBit s ∧
    List.replicate 64 true ≠ idWireBits s.id := by decide
theorem witness_ReadRomSendsTheIdentity :
    (List.replicate 64 true).length = 64 ∧ readIdle.pstate = .read ∧ readIdle.romMatched = false ∧ readIdle.romCommand = 0x33#8 ∧
    readIdle.idIndex = 7#3 ∧ readIdle.bitCount = 0#3 ∧ readIdle.readVal = idBit readIdle := by decide

/-- Both answers of the application. -/
theorem witness_BridgeDeliversAReceivedByte :
    let s := inCommand .write 0xCC#8 true 7#3 0#3 true
    s.pstate = .write ∧ s.romMatched = true ∧ s.bitCount = 0#3 ∧ s.reply.wantTransmit = false ∧
    { s with reply := { wantTransmit := true, staged := some 0x96#8 } }.reply.wantTransmit = true := by decide
theorem witness_BridgeSendsTheStagedByte :
    let s := { inCommand .read 0xCC#8 true 7#3 0#3 true with txByte := 0x96#8 }
    (List.replicate 8 true).length = 8 ∧ s.pstate = .read ∧ s.romMatched = true ∧ s.bitCount = 0#3 ∧
    s.readVal = s.txByte.getLsbD 0 := by decide
theorem witness_TransmissionEndsOnlyByWatchdog :
    Inv { inCommand .read 0xCC#8 true 7#3 0#3 true with cnt := 499 } ∧
    ∃ t, step { inCommand .read 0xCC#8 true 7#3 0#3 true with cnt := 499 } = .next t ∧ t.pstate = .idle :=
  ⟨by constructor <;> decide, _, rfl, by decide⟩

/-- The last bit of the identity selects; a selected engine samples on. -/
theorem witness_SelectionIsReportedOnce :
    Inv (due 1 (inCommand .write 0x55#8 false 0#3 7#3 true)) ∧
    (∃ t, step (due 1 (inCommand .write 0x55#8 false 0#3 7#3 true)) = .next t ∧ t.call = some .onSelected) ∧
    Inv (due 1 (inCommand .write 0xCC#8 true 7#3 7#3 true)) ∧
    (∃ t, step (due 1 (inCommand .write 0xCC#8 true 7#3 7#3 true)) = .next t ∧ t.call = some (.onByteReceived 0x80#8)) :=
  ⟨by constructor <;> decide, ⟨_, rfl, by decide⟩, by constructor <;> decide, ⟨_, rfl, by decide⟩⟩
/-- An answer that asks to transmit and stages a byte. -/
def answering : TickInput := { quiet true with reply := { wantTransmit := true, staged := some 0x97#8 } }

/-- No call; a selection; a byte received, after which the engine is in `Read` only with the second answer; a byte sent. -/
theorem witness_ApplicationActsOnlyThroughACall :
    (∃ t t', tickWith (quiet true) (engine true) = .next t ∧ tickWith answering (engine true) = .next t' ∧ t.call = none) ∧
    (∃ t t', tickWith (quiet true) (due 1 (inCommand .write 0x55#8 false 0#3 7#3 true)) = .next t ∧
      tickWith answering (due 1 (inCommand .write 0x55#8 false 0#3 7#3 true)) = .next t' ∧ t.call = some .onSelected ∧
      t'.txByte = 0x97#8) ∧
    (∃ t t', tickWith (quiet true) (due 1 (inCommand .write 0xCC#8 true 7#3 7#3 true)) = .next t ∧
      tickWith answering (due 1 (inCommand .write 0xCC#8 true 7#3 7#3 true)) = .next t' ∧
      t.call = some (.onByteReceived 0x80#8) ∧ t.pstate = .write ∧ t'.pstate = .read) ∧
    (∃ t t', tickWith (quiet true) (due 1 (inCommand .read 0xCC#8 true 7#3 7#3 true)) = .next t ∧
      tickWith answering (due 1 (inCommand .read 0xCC#8 true 7#3 7#3 true)) = .next t' ∧ t.call = some .onByteSent ∧
      t.readVal = false ∧ t'.readVal = true) :=
  ⟨⟨_, _, rfl, rfl, by decide⟩, ⟨_, _, rfl, rfl, by decide, by decide⟩, ⟨_, _, rfl, rfl, by decide, by decide, by decide⟩,
    ⟨_, _, rfl, rfl, by decide, by decide, by decide⟩⟩
theorem witness_IdentityIsNeverWritten : ∃ t, step (engine false) = .next t := ⟨_, rfl⟩
theorem witness_PstateMovesOnlyAsTabled :
    Inv (pulse 471) ∧ (pulse 471).events = .tick (quiet true) :: [] ∧ ∃ t, step (pulse 471) = .next t ∧ t.pstate = .presenceWait :=
  ⟨by constructor <;> decide, by decide, _, rfl, by decide⟩

/-- The boundary widths of both outcomes (vectors 2.2), with the dead zone refused and accepted. -/
theorem witness_ResetPulseWidthDecides :
    (∀ w ∈ [1, 449, 450, 470, 471, 510, 511, 65535], ∀ accept ∈ [false, true],
      let s := { engine true with params := { Params.default with deadzoneAccept := accept } }
      s.params.Valid ∧ s.pstate = .idle ∧ s.linePrev = true ∧ s.driveLow = false ∧ 0 < w ∧ w < 2 ^ s.params.cntWidth) ∧
    { engine true with events := heldTicks false 1 ++ heldTicks true 1 ++ [] }.events = heldTicks false 1 ++ heldTicks true 1 ++ [] := by
  decide
theorem witness_PresenceTimeline :
    let s := { engine true with pstate := .presenceWait, cmp := 30, dlArmed := true }
    s.params.Valid ∧ s.params.deadlineLatency = 0 ∧ s.pstate = .presenceWait ∧ s.cnt = 0 ∧ s.cmp = 30 ∧ s.dlArmed = true ∧
    s.driveLow = false ∧ s.linePrev = true := by decide
/-- A high line, and a line held low in `Read` while the engine drives a 0. -/
theorem witness_SilenceEndsTheTransaction :
    Inv { inCommand .write 0x55#8 false 7#3 2#3 true with cnt := 498 } ∧
    (let s := { inCommand .write 0x55#8 false 7#3 2#3 true with cnt := 498 }
     s.pstate ≠ .presenceWait ∧ s.pstate ≠ .presencePulse ∧ s.linePrev = true ∧ (true = true → s.driveLow = false) ∧ s.cnt < 500 ∧
     [quiet true, quiet true].length = 500 - s.cnt ∧ ∀ i ∈ [quiet true, quiet true], i.release = true) ∧
    Inv (due 49 { readIdle with driveLow := true, linePrev := false }) ∧ (due 49 readIdle).cnt = 1 ∧
    (List.replicate 499 (quiet false)).length = 500 - 1 :=
  ⟨by constructor <;> decide, by decide, by constructor <;> decide, by decide, List.length_replicate⟩

/-- The ticks of a word, with the alarm flag set and an application that asks to transmit. -/
def busy (word : Stimulus) : List TickInput :=
  word.levels.map fun l => { release := l, alarm := true, reply := { wantTransmit := true, staged := some 0x96#8 } }

/-- The latch slot of Alarm Search (its last bit is 1) and a turnaround slot, with the flag set and an answering application. -/
theorem witness_WriteSlotDeliversItsBit :
    Inv { inCommand .write 0x00#8 false 0#3 7#3 true with currentByte := 0xD8#8 } ∧ Inv (inCommand .write 0xCC#8 true 7#3 7#3 true) ∧
    (let s := inCommand .write 0xCC#8 true 7#3 7#3 true
     s.params.deadlineLatency = 0 ∧ s.pstate = .write ∧ s.linePrev = true ∧ s.dlArmed = false ∧ s.cnt < 499) ∧
    ∀ b : Bool, ∃ i₄₀ i₆₉, (busy (.writeSlot b)).map (fun i => i.release) = (Stimulus.writeSlot b).levels ∧
      (busy (.writeSlot b))[40]? = some i₄₀ ∧ (busy (.writeSlot b))[69]? = some i₆₉ :=
  ⟨by constructor <;> decide, by constructor <;> decide, by decide,
    fun b => by cases b <;> exact ⟨_, _, by decide, by rfl, by rfl⟩⟩
/-- The last bit of a byte that a selected engine sends. -/
theorem witness_ReadSlotDispatchesTheSentBit :
    Inv (inCommand .read 0xCC#8 true 7#3 7#3 true) ∧
    (let s := inCommand .read 0xCC#8 true 7#3 7#3 true
     s.params.deadlineLatency = 0 ∧ s.pstate = .read ∧ s.linePrev = true ∧ s.driveLow = false ∧ s.dlArmed = false ∧ s.cnt < 499) ∧
    ∃ i₅₀ i₆₉, (busy .readSlot).map (fun i => i.release) = Stimulus.readSlot.levels ∧
      (busy .readSlot)[50]? = some i₅₀ ∧ (busy .readSlot)[69]? = some i₆₉ :=
  ⟨by constructor <;> decide, by decide, _, _, by decide, by rfl, by rfl⟩
theorem witness_ReadSlotWaveform :
    Inv readIdle ∧ readIdle.params.deadlineLatency = 0 ∧ readIdle.pstate = .read ∧ readIdle.linePrev = true ∧
    readIdle.driveLow = false ∧ readIdle.dlArmed = false ∧ readIdle.cnt < 499 ∧ readIdle.readVal = false ∧
    Inv { readIdle with id := idB, readVal := true } ∧ (busy .readSlot).map (fun i => i.release) = Stimulus.readSlot.levels :=
  ⟨by constructor <;> decide, by decide, by decide, by decide, by decide, by decide, by decide, by decide, by constructor <;> decide,
    by decide⟩

end Sys2Proof.Tests
end

section
/-! PROOFS. What one step, the edge part and the decoder can do, each said once. -/

namespace Sys2Proof.Machine

/-- One step is a tick's handlers between counting and following the line, or the power-on reset (R80, R230). -/
theorem step_cases {s t : State} (h : step s = .next t) :
    (∃ i, nextEvent s = .tick i ∧ t = followLine (handlersState (started i s))) ∨
    (nextEvent s = .rst ∧ t = powerOnReset (takeEvent s)) := by
  unfold step applyEvent at h
  cases he : nextEvent s with
  | tick i =>
    rw [he] at h
    exact .inl ⟨i, rfl, (Host.Outcome.next.inj ((tickWith_eq i _).symm.trans h)).symm⟩
  | rst =>
    rw [he] at h
    exact .inr ⟨rfl, (Host.Outcome.next.inj h).symm⟩

/-- The edge part either re-arms the timer, at one of the four calls of `schedule_after` in an edge handler, or does nothing but
perhaps disable rising-edge detection (R101 to R110). -/
theorem edgePart_rearms_cases (s : State) :
    (edgeRearms s = false ∧ (edgePart s = s ∨ edgePart s = rejectPulse s)) ∨
    (edgeRearms s = true ∧
      ((s.pstate = .idle ∧ edgePart s = { scheduleAfter s.params.resetTimeoutCmp s with riseEn := true }) ∨
       (s.pstate = .write ∧ edgePart s = scheduleAfter Config.tWsample s) ∨
       (s.pstate = .read ∧ edgePart s = scheduleAfter Config.tRslot { s with driveLow := !s.readVal }) ∨
       (s.pstate = .idle ∧ edgePart s = acceptPulse s))) := by
  rcases edgePart_cases s with ⟨h, e⟩ | ⟨h₁, h₂, e⟩ | ⟨h₁, h₂, e⟩
  · exact .inl ⟨by rw [edgeRearms, edgePart_steady (s := disarm s) h]; rfl, .inl e⟩
  · rw [edgeRearms, edgePart_falling (s := disarm s) h₁ h₂, e]
    rcases fallingEdge_cases s with ⟨hp, f⟩ | ⟨hp, f⟩ | ⟨hp, f⟩ | ⟨hp, f⟩
    · exact .inr ⟨by simp [fallingEdge, hp], .inl ⟨hp, f⟩⟩
    · exact .inr ⟨by simp [fallingEdge, hp], .inr (.inl ⟨hp, f⟩)⟩
    · exact .inr ⟨by simp [fallingEdge, hp], .inr (.inr (.inl ⟨hp, f⟩))⟩
    · exact .inl ⟨by rcases hp with hp | hp <;> simp [fallingEdge, hp], .inl f⟩
  · rw [edgeRearms, edgePart_rising (s := disarm s) h₁ h₂, e]
    by_cases hm : s.pstate = .idle ∧ s.riseEn = true
    · cases hr : pulseRejected s.cnt
      · cases ha : pulseAccepted s.cnt <;> cases hd : s.params.deadzoneAccept <;>
          simp [risingEdge, deadZone, acceptPulse, hm, hr, ha, hd]
      · simp [risingEdge, hm, hr]
    · simp [risingEdge, hm]

/-- The two parts of a tick: the timer's first, or the edge's first, which then leaves the timer's only if it has not re-armed it
(R212). -/
theorem handlersState_cases (s : State) :
    handlersState s = edgePart (timerState s) ∨ (edgeRearms s = true ∧ handlersState s = edgePart s) ∨
    (edgeRearms s = false ∧ handlersState s = timerState (edgePart s)) := by
  unfold handlersState
  cases s.params.simulOrder <;> cases edgeRearms s <;> simp

/-- The decoder's answer for each byte (R63, R64). -/
theorem decodeByte_cases (b : Byte) :
    (b = 0xF0#8 ∧ decodeByte b = .searchRom) ∨ (b = 0x55#8 ∧ decodeByte b = .matchRom) ∨
    (b = 0xCC#8 ∧ decodeByte b = .skipRom) ∨ (b = 0x33#8 ∧ decodeByte b = .readRom) ∨
    (b = 0xEC#8 ∧ decodeByte b = .alarmSearch) ∨ decodeByte b = .unknown b := by
  by_cases h₁ : b = 0xF0#8
  · exact .inl ⟨h₁, by rw [h₁]; rfl⟩
  by_cases h₂ : b = 0x55#8
  · exact .inr (.inl ⟨h₂, by rw [h₂]; rfl⟩)
  by_cases h₃ : b = 0xCC#8
  · exact .inr (.inr (.inl ⟨h₃, by rw [h₃]; rfl⟩))
  by_cases h₄ : b = 0x33#8
  · exact .inr (.inr (.inr (.inl ⟨h₄, by rw [h₄]; rfl⟩)))
  by_cases h₅ : b = 0xEC#8
  · exact .inr (.inr (.inr (.inr (.inl ⟨h₅, by rw [h₅]; rfl⟩))))
  · exact .inr (.inr (.inr (.inr (.inr (by
      rw [decodeByte, if_neg h₁, if_neg h₂, if_neg h₃, if_neg h₄, if_neg h₅])))))

end Sys2Proof.Machine
end

section
/-! PROOFS. The protocol phases the context of an engine can be in (R34 items 3 and 4, R123, R155, R165, R170, R181), and that every
slot's deadline leads from one to another. -/

namespace Sys2Proof.Machine

/-! ### The cursor writes the cursor only -/

@[simp] theorem advance_pstate (s : State) : (advance s).pstate = s.pstate := by
  rcases advance_cases s with ⟨_, h⟩ | ⟨_, h⟩ <;> rw [h]
@[simp] theorem advance_romCommand (s : State) : (advance s).romCommand = s.romCommand := by
  rcases advance_cases s with ⟨_, h⟩ | ⟨_, h⟩ <;> rw [h]
@[simp] theorem advance_romMatched (s : State) : (advance s).romMatched = s.romMatched := by
  rcases advance_cases s with ⟨_, h⟩ | ⟨_, h⟩ <;> rw [h]

/-! ### The dispatcher, by what it has received (R127) -/

theorem processState_selected {s : State} (h : s.romMatched = true) : processState s = bridge s := if_pos h

theorem processState_command {s : State} (h₁ : s.romMatched = false) (h₂ : s.romCommand = 0#8) :
    processState s = receiveState s := by
  rw [processState, if_neg (by simp [h₁]), if_pos ((noCommandYet_iff s).2 h₂)]

theorem processState_later {s : State} (h₁ : s.romMatched = false) (h₂ : s.romCommand ≠ 0#8) :
    processState s = execState (decodeByte s.romCommand) s := by
  rw [processState, if_neg (by simp [h₁]), if_neg (mt (noCommandYet_iff s).1 h₂)]

/-- The later bits of the two searches are the same (R127). -/
theorem processState_search {s : State} (h₁ : s.romMatched = false) (h₂ : s.romCommand ∈ searchCommands) :
    processState s = searchBit s := by
  have hc : s.romCommand = 0xF0#8 ∨ s.romCommand = 0xEC#8 := by simpa [searchCommands] using h₂
  rcases hc with hc | hc <;> rw [processState_later h₁ (by rw [hc]; decide)] <;> simp [hc, decodeByte, execState, noCommandYet]

theorem processState_matchRom {s : State} (h₁ : s.romMatched = false) (h₂ : s.romCommand = 0x55#8) :
    processState s = matchBit s := by
  rw [processState_later h₁ (by rw [h₂]; decide)]
  simp [h₂, decodeByte, execState, noCommandYet]

theorem processState_readRom {s : State} (h₁ : s.romMatched = false) (h₂ : s.romCommand = 0x33#8) :
    processState s = readRomBit s := by
  rw [processState_later h₁ (by rw [h₂]; decide)]
  simp [h₂, decodeByte, execState, noCommandYet]

/-! ### Phases -/

/-- What an engine outside the presence sequence is doing. -/
inductive SlotPhase (s : State) : Prop where
  /-- It waits for a reset pulse. -/
  | idle (state : s.pstate = .idle) (known : s.romMatched = true → s.romCommand ∈ selectingCommands)
  /-- It assembles the command byte (R140). -/
  | command (state : s.pstate = .write) (unmatched : s.romMatched = false) (none : s.romCommand = 0#8)
  /-- Match ROM: it awaits an operand bit (R150). -/
  | matching (state : s.pstate = .write) (unmatched : s.romMatched = false) (cmd : s.romCommand = 0x55#8)
  /-- A search: it awaits the direction bit (R155). -/
  | direction (state : s.pstate = .write) (unmatched : s.romMatched = false) (cmd : s.romCommand ∈ searchCommands)
      (pending : s.readVal = idBit s)
  /-- A search: it sends a bit or its complement (R156). -/
  | searching (state : s.pstate = .read) (unmatched : s.romMatched = false) (cmd : s.romCommand ∈ searchCommands)
  /-- Read ROM: it sends the identity (R165). -/
  | identity (state : s.pstate = .read) (unmatched : s.romMatched = false) (cmd : s.romCommand = 0x33#8)
      (sent : s.readVal = idBit s)
  /-- Selected, it receives (R180). -/
  | receiving (state : s.pstate = .write) (matched : s.romMatched = true) (known : s.romCommand ∈ selectingCommands)
  /-- Selected, it sends (R181). -/
  | sending (state : s.pstate = .read) (matched : s.romMatched = true) (known : s.romCommand ∈ selectingCommands)
      (sent : s.readVal = byteBit s.txByte s.bitCount)

/-- The two states of the presence sequence (R10). -/
abbrev InPresence (s : State) : Prop := s.pstate = .presenceWait ∨ s.pstate = .presencePulse

/-- In the presence sequence the context is all zero (R123). -/
abbrev Phase (s : State) : Prop := SlotPhase s ∨ (InPresence s ∧ ContextClear s)

theorem SlotPhase.not_presence {s : State} (h : SlotPhase s) : ¬ InPresence s := by
  rintro (hp | hp) <;> cases h <;> simp_all

theorem Phase.clear {s : State} (h : Phase s) (hp : InPresence s) : ContextClear s :=
  (h.resolve_left fun p => p.not_presence hp).2

theorem Phase.slot {s : State} (h : Phase s) (hp : ¬ InPresence s) : SlotPhase s := h.resolve_right fun x => hp x.1

/-- All that a phase speaks of. -/
def contextOf (s : State) : PState × Cursor × Byte × Byte × Bool × Cursor × Bool × Byte × Identity :=
  (s.pstate, s.bitCount, s.currentByte, s.romCommand, s.romMatched, s.idIndex, s.readVal, s.txByte, s.id)

theorem SlotPhase.congr {s t : State} (h : SlotPhase s) (e : contextOf t = contextOf s) : SlotPhase t := by
  simp only [contextOf, Prod.mk.injEq] at e
  obtain ⟨hp, hk, -, hc, hm, hi, hv, ht, hid⟩ := e
  have hb : idBit t = idBit s := by simp only [idBit, hid, hi, hk]
  cases h with
  | idle a b => exact .idle (by rwa [hp]) (by rwa [hm, hc])
  | command a b c => exact .command (by rwa [hp]) (by rwa [hm]) (by rwa [hc])
  | matching a b c => exact .matching (by rwa [hp]) (by rwa [hm]) (by rwa [hc])
  | direction a b c d => exact .direction (by rwa [hp]) (by rwa [hm]) (by rwa [hc]) (by rwa [hv, hb])
  | searching a b c => exact .searching (by rwa [hp]) (by rwa [hm]) (by rwa [hc])
  | identity a b c d => exact .identity (by rwa [hp]) (by rwa [hm]) (by rwa [hc]) (by rwa [hv, hb])
  | receiving a b c => exact .receiving (by rwa [hp]) (by rwa [hm]) (by rwa [hc])
  | sending a b c d => exact .sending (by rwa [hp]) (by rwa [hm]) (by rwa [hc]) (by rwa [hv, ht, hk])

theorem Phase.congr {s t : State} (h : Phase s) (e : contextOf t = contextOf s) : Phase t := by
  refine h.imp (fun p => p.congr e) fun ⟨hp, hc⟩ => ?_
  simp only [contextOf, Prod.mk.injEq] at e
  simp_all [InPresence, ContextClear]

/-- Search commands and the others a device can be selected by. -/
theorem selecting_of_search : ∀ c ∈ searchCommands, c ∈ selectingCommands := by decide

/-! ### From phase to phase -/

/-- Deselected (R128). -/
theorem slotPhase_deselect {s : State} (h : s.romMatched = false) : SlotPhase (deselect s) :=
  .idle rfl (by simp [h])

/-- The eighth command bit (R142): each command's first step. -/
theorem slotPhase_latch {s : State} (hp : s.pstate = .write) (hm : s.romMatched = false) (hc : s.romCommand = 0#8) :
    SlotPhase (execState (decodeByte s.currentByte) s) := by
  have hn : noCommandYet s = true := (noCommandYet_iff s).2 hc
  rcases decodeByte_cases s.currentByte with ⟨hb, e⟩ | ⟨hb, e⟩ | ⟨hb, e⟩ | ⟨hb, e⟩ | ⟨hb, e⟩ | e <;> rw [e] <;>
    simp only [execState, hn, if_true]
  · exact .searching rfl hm (by simp [loadRead, hb, searchCommands])
  · exact .matching hp hm hb
  · exact .receiving hp rfl (by simp [hb, selectingCommands])
  · exact .identity rfl hm hb rfl
  · split
    · exact .searching rfl hm (by simp [loadRead, hb, searchCommands])
    · exact slotPhase_deselect hm
  · exact slotPhase_deselect hm

/-- A bit of the command byte (R140). -/
theorem slotPhase_receive {s : State} (hp : s.pstate = .write) (hm : s.romMatched = false) (hc : s.romCommand = 0#8) :
    SlotPhase (receiveState s) := by
  rw [receiveState, if_neg (by simp [hp])]
  split
  · exact slotPhase_latch (s := shiftIn (handedBit s) s) hp hm hc
  · exact .command hp hm hc

/-- An operand bit of Match ROM (R150). -/
theorem slotPhase_matchBit {s : State} (hp : s.pstate = .write) (hm : s.romMatched = false) (hc : s.romCommand = 0x55#8) :
    SlotPhase (matchBit s) := by
  rcases matchBit_cases s with ⟨_, e⟩ | ⟨_, _, ⟨_, e⟩ | ⟨_, e⟩⟩ <;> rw [e]
  · exact slotPhase_deselect hm
  · exact .receiving hp rfl (by simp [hc, selectingCommands])
  · exact .matching (by simpa using hp) (by simpa using hm) (by simpa using hc)

/-- A bit of a search (R155, R156). -/
theorem slotPhase_searchBit {s : State} (hp : s.pstate = .write ∨ s.pstate = .read) (hm : s.romMatched = false)
    (hc : s.romCommand ∈ searchCommands) : SlotPhase (searchBit s) := by
  rcases searchBit_cases s with ⟨hw, ⟨_, e⟩ | ⟨_, _, e⟩ | ⟨_, _, e⟩⟩ | ⟨hw, ⟨hb, e⟩ | ⟨_, e⟩⟩ <;> rw [e]
  · exact slotPhase_deselect hm
  · exact .receiving hw rfl (selecting_of_search _ hc)
  · exact .searching rfl (by simpa using hm) (by simpa using hc)
  · exact .direction rfl hm hc hb
  · exact .searching (hp.resolve_left hw) hm hc

/-- A bit of Read ROM (R165). -/
theorem slotPhase_readRomBit {s : State} (hm : s.romMatched = false) (hc : s.romCommand = 0x33#8) : SlotPhase (readRomBit s) := by
  rcases readRomBit_cases s with ⟨_, e⟩ | ⟨hp, ⟨_, e⟩ | ⟨_, e⟩⟩ <;> rw [e]
  · exact slotPhase_deselect hm
  · exact .receiving rfl rfl (by simp [hc, selectingCommands])
  · exact .identity (by simpa using hp) (by simpa using hm) (by simpa using hc) rfl

/-- A bit of a selected engine (R180, R181). -/
theorem slotPhase_bridge {s : State} (hp : s.pstate = .write ∨ s.pstate = .read) (hm : s.romMatched = true)
    (hc : s.romCommand ∈ selectingCommands) : SlotPhase (bridge s) := by
  rcases hp with hp | hp
  · rw [bridge, if_pos hp]
    rcases bridgeReceive_cases s with ⟨_, e⟩ | ⟨_, u, rfl, ⟨_, e⟩ | ⟨_, e⟩⟩ <;> rw [e]
    · exact .receiving hp hm hc
    · exact .sending rfl hm hc rfl
    · exact .receiving hp hm hc
  · rw [bridge, if_neg (by simp [hp])]
    obtain ⟨u, ⟨_, rfl⟩ | ⟨_, rfl⟩, e⟩ := bridgeTransmit_cases s <;> rw [e] <;> exact .sending hp hm hc rfl

/-- The bit of a slot leads from a phase to a phase outside the presence sequence. -/
theorem slotPhase_process {s : State} (h : SlotPhase s) (hi : s.pstate ≠ .idle) : SlotPhase (processState s) := by
  cases h with
  | idle hp _ => exact absurd hp hi
  | command hp hm hc => rw [processState_command hm hc]; exact slotPhase_receive hp hm hc
  | matching hp hm hc => rw [processState_matchRom hm hc]; exact slotPhase_matchBit hp hm hc
  | direction hp hm hc _ => rw [processState_search hm hc]; exact slotPhase_searchBit (.inl hp) hm hc
  | searching hp hm hc => rw [processState_search hm hc]; exact slotPhase_searchBit (.inr hp) hm hc
  | identity hp hm hc _ => rw [processState_readRom hm hc]; exact slotPhase_readRomBit hm hc
  | receiving hp hm hc => rw [processState_selected hm]; exact slotPhase_bridge (.inl hp) hm hc
  | sending hp hm hc _ => rw [processState_selected hm]; exact slotPhase_bridge (.inr hp) hm hc

end Sys2Proof.Machine
end

section
/-! PROOFS. The invariant of R34 as phase, timer and line; what re-establishes it after each part of a tick; and that every step keeps
it. -/

namespace Sys2Proof.Machine

/-! ### The invariant, split -/

/-- The invariant without what it says of the pending deadline's distance: what still holds once the counter has been incremented. -/
structure InvBase (s : State) : Prop where
  params : s.params.Valid
  cnt_fits : s.cnt < 2 ^ s.params.cntWidth
  cmp_fits : s.cmp < 2 ^ s.params.cntWidth
  driven : s.driveLow = true → s.pstate = .presencePulse ∨ (s.pstate = .read ∧ s.readVal = false ∧ s.dlArmed = true)
  presence_armed : InPresence s → s.dlArmed = true
  rise_idle : s.riseEn = true → s.pstate = .idle
  armed_value : s.dlArmed = true → s.cmp = armedValue s
  matched_armed : s.dlMatched = true → s.dlArmed = true
  phase : Phase s

/-- Between two ticks a pending deadline lies ahead (R126, R210). -/
structure DeadlineAhead (s : State) : Prop where
  armed_ahead : s.dlArmed = true → s.pstate ≠ .idle →
    s.cnt < s.cmp + s.params.deadlineLatency ∧ (s.dlMatched = true ↔ s.cmp ≤ s.cnt)
  nothing_latched : s.params.deadlineLatency = 0 → s.dlMatched = false

/-- After the counter has been incremented it may have been reached, but not passed. -/
structure DeadlineReached (s : State) : Prop where
  armed_reached : s.dlArmed = true → s.pstate ≠ .idle →
    s.cnt ≤ s.cmp + s.params.deadlineLatency ∧ (s.dlMatched = true ↔ s.cmp ≤ s.cnt)
  matched_now : s.params.deadlineLatency = 0 → s.dlMatched = true → s.cnt = s.cmp

theorem Inv.toPhase {s : State} (h : Inv s) : Phase s := by
  cases hp : s.pstate with
  | idle => exact .inl (.idle hp h.matched_command)
  | presenceWait => exact .inr ⟨.inl hp, h.presence_context (.inl hp)⟩
  | presencePulse => exact .inr ⟨.inr hp, h.presence_context (.inr hp)⟩
  | write =>
    cases hm : s.romMatched with
    | true => exact .inl (.receiving hp hm (h.matched_command hm))
    | false =>
      rcases h.unmatched_write hp hm with hc | hc | hc
      · exact .inl (.command hp hm hc)
      · exact .inl (.matching hp hm hc)
      · exact .inl (.direction hp hm hc (h.direction_pending hp hm hc))
  | read =>
    cases hm : s.romMatched with
    | true => exact .inl (.sending hp hm (h.matched_command hm) (h.byte_sent hp hm))
    | false =>
      rcases h.unmatched_read hp hm with hc | hc
      · exact .inl (.identity hp hm hc (h.identity_sent hp hm hc))
      · exact .inl (.searching hp hm hc)

theorem Inv.toBase {s : State} (h : Inv s) : InvBase s :=
  { params := h.params, cnt_fits := h.cnt_fits, cmp_fits := h.cmp_fits, driven := h.driven, presence_armed := h.presence_armed,
    rise_idle := h.rise_idle, armed_value := h.armed_value, matched_armed := h.matched_armed, phase := h.toPhase }

theorem Inv.toAhead {s : State} (h : Inv s) : DeadlineAhead s := ⟨h.armed_ahead, h.nothing_latched⟩

theorem selecting_ne_zero : ∀ c ∈ selectingCommands, c ≠ 0#8 := by decide

theorem search_ne : ∀ c ∈ searchCommands, c ≠ 0#8 ∧ c ≠ 0x33#8 ∧ c ≠ 0x55#8 := by decide

/-- Each phase answers the items of R34 about the context. -/
theorem InvBase.inv {s : State} (b : InvBase s) (a : DeadlineAhead s) : Inv s := by
  have selecting₀ : s.romCommand ∈ selectingCommands → s.romCommand ≠ 0#8 := selecting_ne_zero _
  have search₀ : s.romCommand ∈ searchCommands → s.romCommand ≠ 0#8 ∧ s.romCommand ≠ 0x33#8 ∧ s.romCommand ≠ 0x55#8 :=
    search_ne _
  refine ⟨b.params, b.cnt_fits, b.cmp_fits, b.driven, b.presence_armed, ?no_command, ?matched_command, b.rise_idle, b.armed_value,
    a.armed_ahead, b.matched_armed, a.nothing_latched, b.phase.clear, ?unmatched_write, ?unmatched_read, ?direction_pending,
    ?identity_sent, ?byte_sent⟩
  all_goals
    obtain ⟨_, _, _, _, _, _, _, _, phase | ⟨hp | hp, _, _, _, hm, _⟩⟩ := b
    · clear a
      cases phase <;> simp_all
    · simp [hp, hm]
    · simp [hp, hm]

/-! ### Bounds -/

theorem Params.Valid.pow_le {p : Params} (h : p.Valid) : 1024 ≤ 2 ^ p.cntWidth :=
  Nat.pow_le_pow_right (n := 2) (by decide) h.1

theorem armedValue_pos {s : State} (h : s.params.Valid) : 0 < armedValue s := by
  obtain ⟨_, hpos, _⟩ := h
  unfold armedValue; cases s.pstate <;> simp [hpos]

/-- Every deadline but the wide timeout is at most 70 ticks long (R6, R126). -/
theorem armedValue_le {s : State} (h : s.pstate ≠ .idle) : armedValue s ≤ 70 := by
  unfold armedValue
  cases hp : s.pstate <;> simp_all [Config.tPdly, Config.tPpulse, Config.tWsample, Config.tRslot]

theorem armedValue_fits {s : State} (h : s.params.Valid) : armedValue s < 2 ^ s.params.cntWidth := by
  by_cases hi : s.pstate = .idle
  · obtain ⟨_, _, hfits, _⟩ := h
    simpa [armedValue, hi] using hfits
  · have hle := armedValue_le hi
    have hpow := Params.Valid.pow_le h
    omega

/-- Outside `Idle` a pending deadline ends far below the watchdog's count and the counter's width. -/
theorem InvBase.deadline_le {s : State} (b : InvBase s) (ha : s.dlArmed = true) (hi : s.pstate ≠ .idle) :
    s.cmp + s.params.deadlineLatency ≤ 80 := by
  have h₁ := b.armed_value ha
  have h₂ := armedValue_le hi
  obtain ⟨_, _, _, hL⟩ := b.params
  omega

/-- An armed engine outside `Idle` counts below 80. -/
theorem Inv.cnt_lt_of_armed {s : State} (h : Inv s) (ha : s.dlArmed = true) (hi : s.pstate ≠ .idle) : s.cnt < 80 :=
  Nat.lt_of_lt_of_le (h.armed_ahead ha hi).1 (h.toBase.deadline_le ha hi)

/-- Only a presence pulse and a sent 0 drive the line (R34 item 1). -/
theorem InvBase.undriven {s : State} (b : InvBase s) (h₁ : s.pstate ≠ .presencePulse) (h₂ : s.pstate ≠ .read) :
    s.driveLow = false := by
  cases hd : s.driveLow with
  | false => rfl
  | true =>
    rcases b.driven hd with hp | ⟨hp, _⟩
    · exact absurd hp h₁
    · exact absurd hp h₂

/-- Once the counter is that high the line is released, no presence is under way, and only the wide timeout can be pending. -/
theorem Inv.quiet_of_cnt {s : State} (h : Inv s) (hc : 80 ≤ s.cnt) :
    s.driveLow = false ∧ ¬ InPresence s ∧ (s.dlArmed = true → s.pstate = .idle) := by
  have idle : s.dlArmed = true → s.pstate = .idle := fun ha =>
    Decidable.byContradiction fun hi => by have := h.cnt_lt_of_armed ha hi; omega
  have presence : ¬ InPresence s := fun hp => by
    have := idle (h.presence_armed hp); rcases hp with hp | hp <;> rw [hp] at this <;> cases this
  refine ⟨?_, presence, idle⟩
  cases hd : s.driveLow with
  | false => rfl
  | true =>
    rcases h.driven hd with hp | ⟨hp, _, ha⟩
    · exact absurd (.inr hp) presence
    · rw [idle ha] at hp; cases hp

/-! ### What establishes the invariant -/

/-- Right after a call of `schedule_after` with the value of the state. -/
theorem inv_scheduleAfter {s : State} {us : Nat} (hv : s.params.Valid) (hus : us = armedValue s)
    (hd : s.driveLow = true → s.pstate = .presencePulse ∨ (s.pstate = .read ∧ s.readVal = false))
    (hr : s.riseEn = true → s.pstate = .idle) (hph : Phase s) : Inv (scheduleAfter us s) := by
  subst hus
  have hpos := armedValue_pos hv
  refine InvBase.inv ⟨hv, ?_, armedValue_fits hv, fun h => ?_, fun _ => rfl, hr, fun _ => rfl, fun _ => rfl, ?_⟩
    ⟨fun _ _ => ?_, fun _ => rfl⟩
  · exact Nat.two_pow_pos _
  · exact (hd h).imp_right fun ⟨h₁, h₂⟩ => ⟨h₁, h₂, rfl⟩
  · exact hph.congr rfl
  · simp; omega

/-- With no deadline pending and the line released. -/
theorem inv_of_unarmed {s : State} (hv : s.params.Valid) (hcnt : s.cnt < 2 ^ s.params.cntWidth)
    (hcmp : s.cmp < 2 ^ s.params.cntWidth) (ha : s.dlArmed = false) (hm : s.dlMatched = false) (hd : s.driveLow = false)
    (hr : s.riseEn = true → s.pstate = .idle) (hph : SlotPhase s) : Inv s :=
  InvBase.inv ⟨hv, hcnt, hcmp, by simp [hd], fun hp => absurd hp hph.not_presence, hr, by simp [ha], by simp [hm], .inl hph⟩
    ⟨by simp [ha], fun _ => hm⟩

theorem inv_powerOnReset {s : State} (hv : s.params.Valid) : Inv (powerOnReset s) :=
  inv_of_unarmed hv (Nat.two_pow_pos _) (Nat.two_pow_pos _) rfl rfl rfl (fun _ => rfl) (.idle rfl (by simp))

/-! ### The timer part -/

/-- Taking the event, sampling the ports and counting. -/
theorem InvBase.started {s : State} (h : InvBase s) (i : TickInput) : InvBase (started i s) where
  params := h.params
  cnt_fits := Nat.mod_lt _ (Nat.two_pow_pos _)
  cmp_fits := h.cmp_fits
  driven := h.driven
  presence_armed := h.presence_armed
  rise_idle := h.rise_idle
  armed_value := h.armed_value
  matched_armed hm := ((nextMatched_iff s).1 hm).elim h.matched_armed fun x => x.1
  phase := h.phase.congr rfl

theorem nextCount_eq {s : State} (h : s.cnt + 1 < 2 ^ s.params.cntWidth) : nextCount s = s.cnt + 1 := Nat.mod_eq_of_lt h

/-- Counting reaches a pending deadline at most. -/
theorem Inv.started_reached {s : State} (h : Inv s) (i : TickInput) : DeadlineReached (started i s) where
  armed_reached ha hi := by
    have ha : s.dlArmed = true := ha
    obtain ⟨hlt, hm⟩ := h.armed_ahead ha hi
    have hpow := Params.Valid.pow_le h.params
    have hn : nextCount s = s.cnt + 1 := nextCount_eq (by have := h.cnt_lt_of_armed ha hi; omega)
    have hm' : nextMatched s = true ↔ s.cmp ≤ nextCount s := by
      rw [nextMatched_iff, hm, hn]; simp only [ha, true_and]; omega
    exact ⟨show nextCount s ≤ _ by rw [hn]; exact hlt, hm'⟩
  matched_now hl hm := by
    have := h.nothing_latched hl
    exact (((nextMatched_iff s).1 hm).resolve_left (by simp [this])).2

/-- A deadline whose handler does not start yet lies ahead again. -/
theorem DeadlineReached.ahead {s : State} (b : InvBase s) (r : DeadlineReached s) (hd : deadlineDue s = false) : DeadlineAhead s where
  armed_ahead ha hi := by
    obtain ⟨hle, hm⟩ := r.armed_reached ha hi
    refine ⟨Nat.lt_of_le_of_ne hle fun he => ?_, hm⟩
    have hpow := Params.Valid.pow_le b.params
    have hlt := b.deadline_le ha hi
    have : deadlineDue s = true :=
      (deadlineDue_iff s).2 ⟨ha, hm.2 (by omega), by rw [Nat.mod_eq_of_lt (by omega)]; exact he⟩
    simp [this] at hd
  nothing_latched hl := by
    cases hm : s.dlMatched with
    | false => rfl
    | true =>
      have now : s.cnt = (s.cmp + s.params.deadlineLatency) % 2 ^ s.params.cntWidth := by
        rw [hl, Nat.add_zero, Nat.mod_eq_of_lt b.cmp_fits]; exact r.matched_now hl hm
      have : deadlineDue s = true := (deadlineDue_iff s).2 ⟨b.matched_armed hm, hm, now⟩
      simp [this] at hd

/-- Outside `Idle` a deadline that is due is inside its window. -/
theorem inWindow_of_due {s : State} (b : InvBase s) (hi : s.pstate ≠ .idle) (hd : deadlineDue s = true) : inWindow s = true := by
  obtain ⟨ha, _, hc⟩ := (deadlineDue_iff s).1 hd
  have hpow := Params.Valid.pow_le b.params
  have hlt := b.deadline_le ha hi
  obtain ⟨_, _, _, hL⟩ := b.params
  rw [Nat.mod_eq_of_lt (by omega)] at hc
  rw [inWindow_iff]
  omega

/-- In a slot's deadline the engine takes the bit and goes on unarmed, with the line released. -/
theorem inv_processState {s : State} (b : InvBase s) (hp : s.pstate = .write ∨ s.pstate = .read) :
    Inv (processState (releaseLine (disarm s))) := by
  have hi : s.pstate ≠ .idle := by rcases hp with hp | hp <;> simp [hp]
  have hr : s.riseEn = false := by simpa using mt b.rise_idle hi
  have hsp : SlotPhase (releaseLine (disarm s)) :=
    (b.phase.slot (by rcases hp with hp | hp <;> simp [InPresence, hp])).congr rfl
  have around := sameAround_process (releaseLine (disarm s))
  refine inv_of_unarmed ?_ ?_ ?_ around.dlArmed around.dlMatched around.driveLow ?_ (slotPhase_process hsp hi)
  · rw [around.params]; exact b.params
  · rw [around.cnt, around.params]; exact b.cnt_fits
  · rw [around.cmp, around.params]; exact b.cmp_fits
  · rw [around.riseEn]; simp [hr]

/-- The deadline handler that is due leaves the invariant (R120 to R125). -/
theorem inv_armState {s : State} (b : InvBase s) (hi : s.pstate ≠ .idle) : Inv (armState (disarm s)) := by
  have hr : s.riseEn = false := by simpa using mt b.rise_idle hi
  cases hp : s.pstate with
  | idle => exact absurd hp hi
  | write => rw [armState_slot (s := disarm s) (.inl hp)]; exact inv_processState b (.inl hp)
  | read => rw [armState_slot (s := disarm s) (.inr hp)]; exact inv_processState b (.inr hp)
  | presencePulse =>
    obtain ⟨_, _, hc, hm, _⟩ := b.phase.clear (.inr hp)
    have e : armState (disarm s) = { releaseLine (disarm s) with pstate := .write } := by simp [armState, hp]
    rw [e]
    exact inv_of_unarmed b.params b.cnt_fits b.cmp_fits rfl rfl rfl (by simp [hr]) (.command rfl hm hc)
  | presenceWait =>
    have clear := b.phase.clear (.inl hp)
    have e : armState (disarm s) = scheduleAfter Config.tPpulse { driveLine (disarm s) with pstate := .presencePulse } := by
      simp [armState, hp]
    rw [e]
    exact inv_scheduleAfter b.params rfl (fun _ => .inl rfl) (by simp [hr]) (.inr ⟨.inr rfl, clear⟩)

theorem inv_deadlineState {s : State} (b : InvBase s) (r : DeadlineReached s) : Inv (deadlineState s) := by
  cases hd : deadlineDue s with
  | false => rw [deadlineState, if_neg (by simp [hd])]; exact b.inv (r.ahead b hd)
  | true =>
    rw [deadlineState, if_pos hd]
    by_cases hi : s.pstate = .idle
    · have idle : Inv (disarm s) :=
        inv_of_unarmed b.params b.cnt_fits b.cmp_fits rfl rfl
          (b.undriven (by simp [hi]) (by simp [hi])) b.rise_idle
          ((b.phase.slot (by simp [InPresence, hi])).congr rfl)
      have e : armState (disarm s) = disarm s := by simp [armState, hi]
      rw [e, ite_self]
      exact idle
    · have hw : inWindow s = true := inWindow_of_due b hi hd
      rw [if_pos (show inWindow (disarm s) = true from hw)]
      exact inv_armState b hi

/-- On the watchdog's count no handler but that of the wide timeout, which is empty, can start (R125, R211). -/
theorem deadlineState_watchdog {s : State} (b : InvBase s) (hc : s.cnt = 500) :
    deadlineState s = s ∨ deadlineState s = disarm s := by
  cases hd : deadlineDue s with
  | false => exact .inl (if_neg (by simp [hd]))
  | true =>
    have hi : s.pstate = .idle := Decidable.byContradiction fun hi => by
      have hw := (inWindow_iff s).1 (inWindow_of_due b hi hd)
      have := b.deadline_le ((deadlineDue_iff s).1 hd).1 hi
      omega
    exact .inr (by simp [deadlineState, hd, armState, hi])

theorem inv_watchdogHandler {s : State} (h : Inv s) (hc : s.cnt = 500) : Inv (watchdogHandler s) := by
  obtain ⟨hd, _, hi⟩ := h.quiet_of_cnt (by omega)
  refine InvBase.inv ⟨h.params, h.cnt_fits, h.cmp_fits, by simp [hd],
    fun hp => absurd hp (by simp [InPresence]), fun _ => rfl, fun ha => ?_, h.matched_armed,
    .inl (.idle rfl (by simp))⟩ ⟨by simp, h.nothing_latched⟩
  rw [watchdogHandler_cmp, h.armed_value ha]
  simp [armedValue, hi ha]

theorem inv_timerState {s : State} (b : InvBase s) (r : DeadlineReached s) : Inv (timerState s) := by
  have h := inv_deadlineState b r
  unfold timerState
  rcases watchdogPart_cases s.cnt (deadlineState s) with ⟨hc, e⟩ | ⟨_, e⟩ <;> rw [e]
  · exact inv_watchdogHandler h (by rcases deadlineState_watchdog b hc with e | e <;> rw [e] <;> exact hc)
  · exact h

/-! ### The edge part -/

/-- An edge handler that re-arms the timer establishes the invariant, also on a count that a deadline has been reached on. -/
theorem inv_edgePart_of_rearms {s : State} (b : InvBase s) (h : edgeRearms s = true) : Inv (edgePart s) := by
  rcases edgePart_rearms_cases s with ⟨h', _⟩ | ⟨_, ⟨hp, e⟩ | ⟨hp, e⟩ | ⟨hp, e⟩ | ⟨hp, e⟩⟩
  · simp [h] at h'
  · rw [e]
    exact inv_scheduleAfter (s := { s with riseEn := true }) b.params (by simp [armedValue, hp])
      (by simp [b.undriven (by simp [hp]) (by simp [hp])]) (fun _ => hp) (b.phase.congr rfl)
  · rw [e]
    exact inv_scheduleAfter b.params (by simp [armedValue, hp]) (by simp [b.undriven (by simp [hp]) (by simp [hp])]) b.rise_idle b.phase
  · rw [e]
    exact inv_scheduleAfter (s := { s with driveLow := !s.readVal }) b.params (by simp [armedValue, hp])
      (fun hd => .inr ⟨hp, by simpa using hd⟩) b.rise_idle (b.phase.congr rfl)
  · rw [e]
    exact inv_scheduleAfter b.params rfl (by simp [b.undriven (by simp [hp]) (by simp [hp])]) (by simp)
      (.inr ⟨.inl rfl, rfl, rfl, rfl, rfl, rfl, rfl, rfl⟩)

theorem InvBase.rejectPulse {s : State} (b : InvBase s) : InvBase (rejectPulse s) :=
  { b with rise_idle := by simp, phase := b.phase.congr rfl }

/-- An edge handler that does not re-arm the timer keeps what holds once the counter is incremented, and the deadline's distance. -/
theorem edgePart_of_not_rearms {s : State} (b : InvBase s) (h : edgeRearms s = false) :
    InvBase (edgePart s) ∧ (DeadlineReached s → DeadlineReached (edgePart s)) ∧ (DeadlineAhead s → DeadlineAhead (edgePart s)) := by
  rcases edgePart_rearms_cases s with ⟨_, e | e⟩ | ⟨h', _⟩
  · rw [e]; exact ⟨b, id, id⟩
  · rw [e]; exact ⟨b.rejectPulse, fun r => ⟨r.1, r.2⟩, fun a => ⟨a.1, a.2⟩⟩
  · simp [h] at h'

theorem inv_edgePart {s : State} (h : Inv s) : Inv (edgePart s) := by
  cases hr : edgeRearms s with
  | true => exact inv_edgePart_of_rearms h.toBase hr
  | false =>
    obtain ⟨b, _, a⟩ := edgePart_of_not_rearms h.toBase hr
    exact b.inv (a h.toAhead)

/-! ### The step -/

/-- The two parts of a tick, in either order (R212). -/
theorem inv_handlersState {s : State} (b : InvBase s) (r : DeadlineReached s) : Inv (handlersState s) := by
  rcases handlersState_cases s with e | ⟨hr, e⟩ | ⟨hr, e⟩ <;> rw [e]
  · exact inv_edgePart (inv_timerState b r)
  · exact inv_edgePart_of_rearms b hr
  · obtain ⟨b', r', _⟩ := edgePart_of_not_rearms b hr
    exact inv_timerState b' (r' r)

theorem inv_followLine {s : State} (h : Inv s) : Inv (followLine s) :=
  InvBase.inv { h.toBase with phase := h.toPhase.congr rfl } ⟨h.armed_ahead, h.nothing_latched⟩

end Sys2Proof.Machine

open Sys2Proof Sys2Proof.Machine

/-- Settles O9: the handlers of a tick start from a state in which a deadline may have been reached, and either order of its parts
re-establishes the invariant; a power-on reset establishes it. -/
theorem stepKeepsInvariant : Obligations.StepKeepsInvariant := by
  intro s t hs h
  rcases step_cases h with ⟨i, _, rfl⟩ | ⟨_, rfl⟩
  · exact inv_followLine (inv_handlersState (hs.toBase.started i) (hs.started_reached i))
  · exact inv_powerOnReset hs.params

/-- Settles O8: after reset no deadline is pending, the line is released and the engine is idle. -/
theorem resetMeetsInvariant : Obligations.ResetMeetsInvariant :=
  inv_of_unarmed (by decide) (by decide) (by decide) rfl rfl rfl (fun _ => rfl) (.idle rfl (fun h => by cases h))

/-- Settles O23: on the count before the watchdog's no deadline outside `Idle` can be pending. -/
theorem watchdogFindsLineReleased : Obligations.WatchdogFindsLineReleased := by
  intro s h hw
  have hc : 80 ≤ s.cnt := by
    have := Nat.mod_le (s.cnt + 1) (2 ^ s.params.cntWidth)
    have hw : (s.cnt + 1) % 2 ^ s.params.cntWidth = 500 := hw
    omega
  obtain ⟨hd, hp, _⟩ := h.quiet_of_cnt hc
  exact ⟨hd, fun e => hp (.inl e), fun e => hp (.inr e)⟩
end

section
/-! PROOFS. What no step writes: the identity and the parameters. The bits of a byte, shifted in one after another. -/

namespace Sys2Proof.Machine

/-- Neither part of a tick writes the identity or the parameters (R25, R53). -/
theorem handlersState_identity (s : State) : (handlersState s).id = s.id ∧ (handlersState s).params = s.params := by
  have timer : ∀ u, (timerState u).id = u.id ∧ (timerState u).params = u.params := fun u =>
    ⟨(sameOutside_timer u).id, (sameOutside_timer u).params⟩
  have edge : ∀ u, (edgePart u).id = u.id ∧ (edgePart u).params = u.params := fun u => by
    obtain ⟨hid, hparams, -⟩ := edgePart_frame u
    exact ⟨hid, hparams⟩
  rcases handlersState_cases s with e | ⟨_, e⟩ | ⟨_, e⟩ <;> simp [e, timer, edge]

/-- Shifting bits in writes `current_byte` only. -/
theorem foldl_shiftIn (bits : List Bool) (s : State) :
    bits.foldl (fun t x => shiftIn x t) s =
      { s with currentByte := bits.foldl (fun c x => (BitVec.ofBool x ++ c.extractLsb' 1 7 : BitVec 8)) s.currentByte } := by
  induction bits generalizing s with
  | nil => rfl
  | cons b bits ih => exact ih (shiftIn b s)

/-- The eighth shift of R13 has moved the first bit of the wire order down to bit 0 (R43). -/
theorem foldl_wireBits (b c : Byte) :
    (wireBits b).foldl (fun c x => (BitVec.ofBool x ++ c.extractLsb' 1 7 : BitVec 8)) c = b := by
  have wire : wireBits b = [b.getLsbD 0, b.getLsbD 1, b.getLsbD 2, b.getLsbD 3, b.getLsbD 4, b.getLsbD 5, b.getLsbD 6,
    b.getLsbD 7] := rfl
  apply BitVec.eq_of_getLsbD_eq
  intro k hk
  simp only [wire, List.foldl_cons, List.foldl_nil, shiftIn_bit]
  have hk : k = 0 ∨ k = 1 ∨ k = 2 ∨ k = 3 ∨ k = 4 ∨ k = 5 ∨ k = 6 ∨ k = 7 := by omega
  rcases hk with rfl | rfl | rfl | rfl | rfl | rfl | rfl | rfl <;> simp

end Sys2Proof.Machine

open Sys2Proof Sys2Proof.Machine

/-- Settles O52: neither the handlers of a tick nor the power-on reset writes them. -/
theorem identityIsNeverWritten : Obligations.IdentityIsNeverWritten := by
  intro s t h
  have key : t.id = s.id ∧ t.params = s.params := by
    rcases step_cases h with ⟨i, _, rfl⟩ | ⟨_, rfl⟩
    · exact handlersState_identity (started i s)
    · exact ⟨rfl, rfl⟩
  obtain ⟨hid, hparams⟩ := key
  exact ⟨hid, hparams, fun j k => by rw [hid]⟩

/-- Settles O4: the shifts write `current_byte` only, and what they leave in it is the byte. -/
theorem wireOrderAssemblesTheByte : Obligations.WireOrderAssemblesTheByte := by
  intro s b
  rw [foldl_shiftIn, foldl_wireBits]
end

section
/-! PROOFS. Selection and the call that reports it (R146, R191): what each part of a tick does to them. -/

namespace Sys2Proof.Machine

@[simp] theorem advance_call (s : State) : (advance s).call = s.call := by
  rcases advance_cases s with ⟨_, h⟩ | ⟨_, h⟩ <;> rw [h]

/-! ### An unselected engine -/

/-- No call was made and the engine is unselected, or it has just been selected and told the application. -/
def ToldOfSelection (s : State) : Prop :=
  (s.romMatched = false ∧ s.call = none) ∨ (s.romMatched = true ∧ s.call = some .onSelected ∧ s.pstate ≠ .idle)

section
variable {s : State} (hm : s.romMatched = false) (hc : s.call = none)
include hm hc

theorem told_matchBit : ToldOfSelection (matchBit s) := by
  rcases matchBit_cases s with ⟨_, e⟩ | ⟨hp, _, ⟨_, e⟩ | ⟨_, e⟩⟩ <;> rw [e]
  · exact .inl ⟨hm, hc⟩
  · exact .inr ⟨rfl, rfl, by simp [hp]⟩
  · exact .inl ⟨by simpa using hm, by simpa using hc⟩

theorem told_searchBit : ToldOfSelection (searchBit s) := by
  rcases searchBit_cases s with ⟨hp, ⟨_, e⟩ | ⟨_, _, e⟩ | ⟨_, _, e⟩⟩ | ⟨_, ⟨_, e⟩ | ⟨_, e⟩⟩ <;> rw [e]
  · exact .inl ⟨hm, hc⟩
  · exact .inr ⟨rfl, rfl, by simp [hp]⟩
  · exact .inl ⟨by simpa using hm, by simpa using hc⟩
  · exact .inl ⟨hm, hc⟩
  · exact .inl ⟨hm, hc⟩

theorem told_readRomBit : ToldOfSelection (readRomBit s) := by
  rcases readRomBit_cases s with ⟨_, e⟩ | ⟨_, ⟨_, e⟩ | ⟨_, e⟩⟩ <;> rw [e]
  · exact .inl ⟨hm, hc⟩
  · exact .inr ⟨rfl, rfl, by simp⟩
  · exact .inl ⟨by simpa using hm, by simpa using hc⟩

variable (hi : s.pstate ≠ .idle)
include hi

theorem told_execState (i : Instr) : ToldOfSelection (execState i s) := by
  have kept : ∀ t : State, t.romMatched = s.romMatched → t.call = s.call → ToldOfSelection t :=
    fun t h₁ h₂ => .inl ⟨h₁.trans hm, h₂.trans hc⟩
  cases hn : noCommandYet s with
  | true =>
    cases i <;> simp only [execState, hn, if_true]
    case skipRom => exact .inr ⟨rfl, rfl, hi⟩
    case alarmSearch => split <;> exact kept _ rfl rfl
    all_goals exact kept _ rfl rfl
  | false =>
    cases i <;> simp only [execState, hn, if_false, Bool.false_eq_true]
    case matchRom => exact told_matchBit hm hc
    case readRom => exact told_readRomBit hm hc
    case searchRom | alarmSearch => exact told_searchBit hm hc
    all_goals exact kept _ rfl rfl

theorem told_processState : ToldOfSelection (processState s) := by
  by_cases h₀ : s.romCommand = 0#8
  · rw [processState_command hm h₀, receiveState]
    split
    · exact .inl ⟨hm, hc⟩
    · split
      · exact told_execState (s := shiftIn (handedBit s) s) hm hc hi _
      · exact .inl ⟨hm, hc⟩
  · rw [processState_later hm h₀]
    exact told_execState hm hc hi _

omit hi

theorem told_deadlineState : ToldOfSelection (deadlineState s) := by
  have arm : ToldOfSelection (armState (disarm s)) := by
    cases hp : s.pstate with
    | write | read =>
      rw [armState_slot (s := disarm s) (by simp [hp])]
      exact told_processState (s := releaseLine (disarm s)) hm hc (by simp [hp])
    | presencePulse | presenceWait | idle => simp [ToldOfSelection, armState, hp, hm, hc]
  unfold deadlineState
  split
  · split
    · exact arm
    · exact .inl ⟨hm, hc⟩
  · exact .inl ⟨hm, hc⟩

/-- A watchdog in the same tick finds no selection to undo, since no slot's deadline is due on its count. -/
theorem told_timerState (b : InvBase s) : ToldOfSelection (timerState s) := by
  unfold timerState
  rcases watchdogPart_cases s.cnt (deadlineState s) with ⟨h₅₀₀, e⟩ | ⟨_, e⟩ <;> rw [e]
  · rcases deadlineState_watchdog b h₅₀₀ with e | e <;> rw [e] <;> exact .inl ⟨rfl, hc⟩
  · exact told_deadlineState hm hc

end

/-! ### A selected engine -/

theorem bridge_selection {s : State} (hc : s.call = none) :
    (bridge s).romMatched = s.romMatched ∧ (bridge s).call ≠ some .onSelected := by
  unfold bridge
  split
  · rcases bridgeReceive_cases s with ⟨_, e⟩ | ⟨_, u, rfl, ⟨_, e⟩ | ⟨_, e⟩⟩ <;> rw [e] <;> simp [hc]
  · obtain ⟨u, ⟨_, rfl⟩ | ⟨_, rfl⟩, e⟩ := bridgeTransmit_cases s <;> rw [e] <;> simp [hc]

/-- The deadline part of a selected engine keeps the selection and does not report it again. -/
theorem deadlineState_selection {s : State} (hm : s.romMatched = true) (hc : s.call = none) :
    (deadlineState s).romMatched = true ∧ (deadlineState s).call ≠ some .onSelected := by
  have arm : (armState (disarm s)).romMatched = true ∧ (armState (disarm s)).call ≠ some .onSelected := by
    cases hp : s.pstate with
    | write | read =>
      rw [armState_slot (s := disarm s) (by simp [hp]), processState_selected (by simpa using hm)]
      obtain ⟨h₁, h₂⟩ := bridge_selection (s := releaseLine (disarm s)) hc
      exact ⟨h₁.trans hm, h₂⟩
    | presencePulse | presenceWait | idle => simp [armState, hp, hm, hc]
  unfold deadlineState
  split
  · split
    · exact arm
    · exact ⟨hm, by simp [hc]⟩
  · exact ⟨hm, by simp [hc]⟩

/-- The timer part of a selected engine also clears the whole context, if the watchdog comes. -/
theorem timerState_selection {s : State} (hm : s.romMatched = true) (hc : s.call = none) :
    ((timerState s).romMatched = true ∨ ContextClear (timerState s)) ∧ (timerState s).call ≠ some .onSelected := by
  obtain ⟨h₁, h₂⟩ := deadlineState_selection hm hc
  unfold timerState
  rcases watchdogPart_cases s.cnt (deadlineState s) with ⟨_, e⟩ | ⟨_, e⟩ <;> rw [e]
  · exact ⟨.inr ⟨rfl, rfl, rfl, rfl, rfl, rfl, rfl⟩, h₂⟩
  · exact ⟨.inl h₁, h₂⟩

/-! ### The edge part -/

/-- An edge handler writes no register of the context, or it accepts a pulse in `Idle` and clears them all (R108). -/
theorem edgePart_context (s : State) :
    ((edgePart s).romMatched = s.romMatched ∧ (ContextClear s → ContextClear (edgePart s))) ∨
    (s.pstate = .idle ∧ ContextClear (edgePart s)) := by
  rcases edgePart_rearms_cases s with ⟨_, e | e⟩ | ⟨_, ⟨_, e⟩ | ⟨_, e⟩ | ⟨_, e⟩ | ⟨hp, e⟩⟩ <;> rw [e]
  case inr.inr.inr.inr => exact .inr ⟨hp, rfl, rfl, rfl, rfl, rfl, rfl, rfl⟩
  all_goals exact .inl ⟨rfl, id⟩

theorem edgePart_call (s : State) : (edgePart s).call = s.call := by
  obtain ⟨-, -, -, -, -, h, -⟩ := edgePart_frame s
  exact h

/-- An edge handler that leaves the timer as it is leaves the selection too. -/
theorem edgePart_romMatched_of_not_rearms {s : State} (h : edgeRearms s = false) : (edgePart s).romMatched = s.romMatched := by
  rcases edgePart_rearms_cases s with ⟨_, e | e⟩ | ⟨h', _⟩
  · rw [e]
  · rw [e]; rfl
  · simp [h] at h'

/-- An edge after a selection finds the engine outside `Idle`, and so clears nothing. -/
theorem selected_iff_told_edgePart {s : State} (h : ToldOfSelection s) :
    (edgePart s).romMatched = true ↔ (edgePart s).call = some .onSelected := by
  rw [edgePart_call]
  rcases h with ⟨hm, hc⟩ | ⟨hm, hc, hi⟩
  · rcases edgePart_context s with ⟨e, _⟩ | ⟨_, _, _, _, e, _⟩ <;> simp [e, hm, hc]
  · rcases edgePart_context s with ⟨e, _⟩ | ⟨hp, _⟩
    · simp [e, hm, hc]
    · exact absurd hp hi

theorem handlersState_unselected {s : State} (b : InvBase s) (hm : s.romMatched = false) (hc : s.call = none) :
    (handlersState s).romMatched = true ↔ (handlersState s).call = some .onSelected := by
  rcases handlersState_cases s with e | ⟨_, e⟩ | ⟨hr, e⟩ <;> rw [e]
  · exact selected_iff_told_edgePart (told_timerState hm hc b)
  · exact selected_iff_told_edgePart (.inl ⟨hm, hc⟩)
  · rcases told_timerState ((edgePart_romMatched_of_not_rearms hr).trans hm) ((edgePart_call s).trans hc)
      (edgePart_of_not_rearms b hr).1 with ⟨h₁, h₂⟩ | ⟨h₁, h₂, _⟩ <;> simp [h₁, h₂]

theorem handlersState_selected {s : State} (hm : s.romMatched = true) (hc : s.call = none) :
    ((handlersState s).romMatched = true ∨ ContextClear (handlersState s)) ∧ (handlersState s).call ≠ some .onSelected := by
  have edge : ∀ u : State, (u.romMatched = true ∨ ContextClear u) →
      (edgePart u).romMatched = true ∨ ContextClear (edgePart u) := fun u hu => by
    rcases edgePart_context u with ⟨e, keep⟩ | ⟨_, clear⟩
    · exact hu.imp e.trans keep
    · exact .inr clear
  rcases handlersState_cases s with e | ⟨_, e⟩ | ⟨hr, e⟩ <;> rw [e]
  · obtain ⟨h₁, h₂⟩ := timerState_selection hm hc
    exact ⟨edge _ h₁, by rwa [edgePart_call]⟩
  · exact ⟨edge s (.inl hm), by simp [edgePart_call, hc]⟩
  · exact timerState_selection ((edgePart_romMatched_of_not_rearms hr).trans hm) ((edgePart_call s).trans hc)

end Sys2Proof.Machine

open Sys2Proof Sys2Proof.Machine

/-- Settles O49: every tick starts without a call, and its handlers select exactly if they report it. -/
theorem selectionIsReportedOnce : Obligations.SelectionIsReportedOnce := by
  intro s t i rest hs he h
  have ht : t = followLine (handlersState (started i s)) :=
    (Host.Outcome.next.inj ((step_started he).symm.trans h)).symm
  subst ht
  refine ⟨fun hm => handlersState_unselected (hs.toBase.started i) hm rfl, fun hm => ?_⟩
  obtain ⟨kept, untold⟩ := handlersState_selected (s := started i s) hm rfl
  exact ⟨untold, fun lost => kept.resolve_left fun h => by simp [h] at lost⟩
end

section
/-! PROOFS. What the application's answer can change in a tick (R190 to R194): two ticks with different answers, side by side. -/

namespace Sys2Proof.Machine

/-- The same state with another answer of the application. -/
def answered (r : AppReply) (s : State) : State := { s with reply := r }

/-- The two states of a slot, in which a falling edge starts one (R102, R103). -/
abbrev InSlot (p : PState) : Prop := p = .write ∨ p = .read

/-- `t'` is what `t` is with another answer: which of the five registers may then differ depends on the call, and `pstate` differs
between the two slot states only. -/
inductive AnswerShows (r : AppReply) (t : State) : State → Prop where
  | intro (tx : Byte) (bit drive : Bool) (value : Nat) (p : PState)
      (staged : t.call = none → tx = t.txByte)
      (sent : t.call = none ∨ t.call = some .onSelected → bit = t.readVal ∧ drive = t.driveLow)
      (turned : (∀ b, t.call ≠ some (.onByteReceived b)) → value = t.cmp ∧ p = t.pstate)
      (slot : p = t.pstate ∨ (InSlot p ∧ InSlot t.pstate)) :
      AnswerShows r t { t with reply := r, txByte := tx, readVal := bit, driveLow := drive, cmp := value, pstate := p }

section
variable {r : AppReply} {t : State}

/-- Without a call the answer changes nothing but itself. -/
theorem AnswerShows.silent : AnswerShows r t (answered r t) :=
  .intro t.txByte t.readVal t.driveLow t.cmp t.pstate (fun _ => rfl) (fun _ => ⟨rfl, rfl⟩) (fun _ => ⟨rfl, rfl⟩) (.inl rfl)

/-- `on_selected` can stage a byte (R191). -/
theorem AnswerShows.selected (h : t.call = some .onSelected) (tx : Byte) :
    AnswerShows r t { answered r t with txByte := tx } :=
  .intro tx t.readVal t.driveLow t.cmp t.pstate (by simp [h]) (fun _ => ⟨rfl, rfl⟩) (fun _ => ⟨rfl, rfl⟩) (.inl rfl)

/-- `on_byte_sent` can choose the next bit too (R194). -/
theorem AnswerShows.sent (h : t.call = some .onByteSent) (tx : Byte) (bit : Bool) :
    AnswerShows r t { answered r t with txByte := tx, readVal := bit } :=
  .intro tx bit t.driveLow t.cmp t.pstate (by simp [h]) (by simp [h]) (fun _ => ⟨rfl, rfl⟩) (.inl rfl)

/-- `on_byte_received` can turn the engine to `Read` (R180, R192). -/
theorem AnswerShows.received {b : Byte} (h : t.call = some (.onByteReceived b)) (tx : Byte) (bit : Bool) {p : PState}
    (hp : InSlot p) (ht : InSlot t.pstate) : AnswerShows r t { answered r t with txByte := tx, readVal := bit, pstate := p } :=
  .intro tx bit t.driveLow t.cmp p (by simp [h]) (by simp [h]) (by simp [h]) (.inr ⟨hp, ht⟩)

end

section
variable {r : AppReply} {t t' : State}

theorem AnswerShows.call (h : AnswerShows r t t') : t'.call = t.call := by cases h; rfl

theorem AnswerShows.dlArmed (h : AnswerShows r t t') : t'.dlArmed = t.dlArmed := by cases h; rfl

theorem AnswerShows.eq_answered (h : AnswerShows r t t') (hc : t.call = none) : t' = answered r t := by
  obtain ⟨tx, bit, drive, value, p, staged, sent, turned, -⟩ := h
  obtain rfl := staged hc
  obtain ⟨rfl, rfl⟩ := sent (.inl hc)
  obtain ⟨rfl, rfl⟩ := turned (by simp [hc])
  rfl

end

/-- Both take the same branch. -/
theorem AnswerShows.ite {r : AppReply} {c c' : Prop} [Decidable c] [Decidable c'] {a b a' b' : State} (h : c ↔ c')
    (ha : c → AnswerShows r a a') (hb : ¬ c → AnswerShows r b b') :
    AnswerShows r (if c then a else b) (if c' then a' else b') := by
  by_cases hc : c
  · rw [if_pos hc, if_pos (h.1 hc)]; exact ha hc
  · rw [if_neg hc, if_neg (mt h.2 hc)]; exact hb hc

/-! ### The commands and the bridge -/

/-- The bit a selected engine sends next, by whether the byte is done (R181). -/
theorem bridgeTransmit_eq_ite (s : State) :
    bridgeTransmit s =
      if s.bitCount = 7#3 then { callApp .onByteSent (firstBit s) with readVal := byteBit (s.reply.staged.getD s.txByte) 0#3 }
      else { nextBit s with readVal := byteBit s.txByte (s.bitCount + 1#3) } := by
  by_cases h : s.bitCount = 7#3 <;> simp [bridgeTransmit, h]

section
variable (r : AppReply) (s : State)

theorem advance_answered : advance (answered r s) = answered r (advance s) := by
  by_cases h : s.bitCount = 7#3 <;> simp [advance, answered, nextBit, h]

theorem answerShows_select : AnswerShows r (select s) (select (answered r s)) := .selected rfl _

theorem answerShows_loadRead_advance : AnswerShows r (loadRead (advance s)) (loadRead (advance (answered r s))) := by
  rw [advance_answered]; exact .silent

theorem answerShows_matchBit : AnswerShows r (matchBit s) (matchBit (answered r s)) :=
  .ite .rfl (fun _ => .silent) fun _ => .ite .rfl (fun _ => .silent) fun _ =>
    .ite .rfl (fun _ => .ite .rfl (fun _ => answerShows_select r (firstBit s)) fun _ => .silent) fun _ => .silent

theorem answerShows_searchBit : AnswerShows r (searchBit s) (searchBit (answered r s)) :=
  .ite .rfl
    (fun _ => .ite .rfl (fun _ => .silent) fun _ =>
      .ite .rfl (fun _ => answerShows_select r (firstBit s)) fun _ => answerShows_loadRead_advance r s)
    fun _ => .ite .rfl (fun _ => .silent) fun _ => .silent

theorem answerShows_readRomBit : AnswerShows r (readRomBit s) (readRomBit (answered r s)) :=
  .ite .rfl (fun _ => .silent) fun _ => .ite .rfl (fun _ => .selected rfl _) fun _ => by
    rw [advance_answered]; exact .silent

theorem answerShows_execState (i : Instr) : AnswerShows r (execState i s) (execState i (answered r s)) := by
  cases i with
  | searchRom => exact .ite .rfl (fun _ => .silent) fun _ => answerShows_searchBit r s
  | matchRom => exact .ite .rfl (fun _ => .silent) fun _ => answerShows_matchBit r s
  | skipRom => exact .ite .rfl (fun _ => answerShows_select r (latch s)) fun _ => .silent
  | readRom => exact .ite .rfl (fun _ => .silent) fun _ => answerShows_readRomBit r s
  | alarmSearch =>
    exact .ite .rfl (fun _ => .ite .rfl (fun _ => .silent) fun _ => .silent) fun _ => answerShows_searchBit r s
  | unknown v => exact .ite .rfl (fun _ => .silent) fun _ => .silent

theorem answerShows_receiveState : AnswerShows r (receiveState s) (receiveState (answered r s)) :=
  .ite .rfl (fun _ => .silent) fun _ =>
    .ite .rfl (fun _ => answerShows_execState r (shiftIn (handedBit s) s) _) fun _ => .silent

variable {s}

/-- A completed byte: either answer may ask for `Read` or leave the engine in `Write` (R180). -/
theorem answerShows_bridgeReceive (hp : s.pstate = .write) : AnswerShows r (bridgeReceive s) (bridgeReceive (answered r s)) := by
  have slot : InSlot s.pstate := .inl hp
  refine .ite .rfl (fun _ => ?_) fun _ => .silent
  split
  · split
    · exact .received rfl _ _ (p := .read) (.inr rfl) (.inr rfl)
    · exact .received rfl _ _ (p := s.pstate) slot (.inr rfl)
  · split
    · exact .received rfl _ _ (p := .read) (.inr rfl) slot
    · exact .received rfl _ _ (p := s.pstate) slot slot

theorem answerShows_bridgeTransmit : AnswerShows r (bridgeTransmit s) (bridgeTransmit (answered r s)) := by
  rw [bridgeTransmit_eq_ite, bridgeTransmit_eq_ite]
  exact .ite .rfl (fun _ => .sent rfl _ _) fun _ => .silent

theorem answerShows_processState : AnswerShows r (processState s) (processState (answered r s)) :=
  .ite .rfl (fun _ => .ite .rfl (answerShows_bridgeReceive r) fun _ => answerShows_bridgeTransmit r)
    fun _ => .ite .rfl (fun _ => answerShows_receiveState r s) fun _ => answerShows_execState r s _

theorem answerShows_armState : AnswerShows r (armState s) (armState (answered r s)) := by
  cases hp : s.pstate with
  | write | read =>
    rw [armState_slot (by simp [hp]), armState_slot (s := answered r s) (by simp [answered, hp])]
    exact answerShows_processState r (s := releaseLine s)
  | presencePulse | presenceWait =>
    simp only [armState, answered, hp]
    exact .silent
  | idle =>
    have e : ∀ q, armState (answered q s) = answered q s := fun q => by simp [armState, answered, hp]
    rw [e r, show armState s = s from e s.reply]
    exact .silent

theorem answerShows_deadlineState : AnswerShows r (deadlineState s) (deadlineState (answered r s)) :=
  .ite .rfl (fun _ => .ite .rfl (fun _ => answerShows_armState r (s := disarm s)) fun _ => .silent) fun _ => .silent

end

/-! ### The watchdog and the edge handlers, after a call -/

section
variable {r : AppReply} {t t' : State}

theorem AnswerShows.watchdogPart (h : AnswerShows r t t') (c : Nat) : AnswerShows r (watchdogPart c t) (watchdogPart c t') := by
  refine .ite .rfl (fun _ => ?_) fun _ => h
  obtain ⟨tx, bit, drive, value, p, staged, sent, turned, slot⟩ := h
  exact .intro 0#8 false drive value .idle (fun _ => rfl) (fun c => ⟨rfl, (sent c).2⟩) (fun c => ⟨(turned c).1, rfl⟩) (.inl rfl)

theorem AnswerShows.followLine (h : AnswerShows r t t') : AnswerShows r (followLine t) (followLine t') := by
  obtain ⟨tx, bit, drive, value, p, staged, sent, turned, slot⟩ := h
  exact .intro tx bit drive value p staged sent turned slot

theorem AnswerShows.rejectPulse (h : AnswerShows r t t') : AnswerShows r (rejectPulse t) (rejectPulse t') := by
  obtain ⟨tx, bit, drive, value, p, staged, sent, turned, slot⟩ := h
  exact .intro tx bit drive value p staged sent turned slot

theorem AnswerShows.acceptPulse (h : AnswerShows r t t') : AnswerShows r (acceptPulse t) (acceptPulse t') := by
  obtain ⟨tx, bit, drive, value, p, staged, sent, turned, slot⟩ := h
  exact .intro 0#8 false drive Config.tPdly .presenceWait (fun _ => rfl) (fun c => ⟨rfl, (sent c).2⟩) (fun _ => ⟨rfl, rfl⟩)
    (.inl rfl)

/-- A different answer leaves the engine in `Idle`, or in a slot state, as the other does. -/
theorem AnswerShows.idle_iff (h : AnswerShows r t t') : t.pstate = .idle ↔ t'.pstate = .idle := by
  obtain ⟨tx, bit, drive, value, p, -, -, -, rfl | ⟨hp | hp, ht | ht⟩⟩ := h <;> simp [*]

theorem AnswerShows.inSlot_iff (h : AnswerShows r t t') : InSlot t.pstate ↔ InSlot t'.pstate := by
  obtain ⟨tx, bit, drive, value, p, -, -, -, rfl | ⟨hp, ht⟩⟩ := h
  · exact .rfl
  · exact iff_of_true ht hp

/-- A falling edge by what it arms: the wide timeout, a slot's deadline, or nothing (R101 to R104). -/
theorem fallingEdge_eq_ite (s : State) :
    fallingEdge s =
      if s.pstate = .idle then { scheduleAfter s.params.resetTimeoutCmp s with riseEn := true }
      else if InSlot s.pstate then
        scheduleAfter (if s.pstate = .read then Config.tRslot else Config.tWsample)
          { s with driveLow := if s.pstate = .read then !s.readVal else s.driveLow }
      else s := by
  rcases fallingEdge_cases s with ⟨hp, e⟩ | ⟨hp, e⟩ | ⟨hp, e⟩ | ⟨hp | hp, e⟩ <;> rw [e] <;>
    simp [hp, InSlot, scheduleAfter]

theorem AnswerShows.fallingEdge (h : AnswerShows r t t') : AnswerShows r (fallingEdge t) (fallingEdge t') := by
  rw [fallingEdge_eq_ite, fallingEdge_eq_ite]
  refine .ite h.idle_iff (fun _ => ?_) fun _ => .ite h.inSlot_iff (fun _ => ?_) fun _ => h
  · obtain ⟨tx, bit, drive, value, p, staged, sent, turned, slot⟩ := h
    exact .intro tx bit drive t.params.resetTimeoutCmp p staged sent (fun c => ⟨rfl, (turned c).2⟩) slot
  · obtain ⟨tx, bit, drive, value, p, staged, sent, turned, slot⟩ := h
    refine .intro tx bit (if p = .read then !bit else drive) (if p = .read then Config.tRslot else Config.tWsample) p staged
      (fun c => ?_) (fun c => ?_) slot
    · obtain ⟨rfl, rfl⟩ := sent c
      obtain ⟨-, rfl⟩ := turned fun b hb => by simp [show t.call = _ from hb] at c
      exact ⟨rfl, rfl⟩
    · obtain ⟨-, rfl⟩ := turned c
      exact ⟨rfl, rfl⟩

theorem AnswerShows.risingEdge (h : AnswerShows r t t') : AnswerShows r (risingEdge t) (risingEdge t') := by
  have hi := h.idle_iff
  have ha := h.acceptPulse
  have hr := h.rejectPulse
  have h₀ := h
  obtain ⟨tx, bit, drive, value, p, staged, sent, turned, slot⟩ := h
  exact .ite (and_congr_left' hi)
    (fun _ => .ite .rfl (fun _ => hr) fun _ => .ite .rfl (fun _ => ha) fun _ => .ite .rfl (fun _ => ha) fun _ => h₀) fun _ => h₀

theorem AnswerShows.edgePart (h : AnswerShows r t t') : AnswerShows r (edgePart t) (edgePart t') := by
  have hf := h.fallingEdge
  have hr := h.risingEdge
  have h₀ := h
  obtain ⟨tx, bit, drive, value, p, staged, sent, turned, slot⟩ := h
  exact .ite .rfl (fun _ => hf) fun _ => .ite .rfl (fun _ => hr) fun _ => h₀

end

/-! ### The tick -/

section
variable (r : AppReply) (s : State)

theorem answerShows_timerState : AnswerShows r (timerState s) (timerState (answered r s)) :=
  (answerShows_deadlineState r (s := s)).watchdogPart s.cnt

theorem edgeRearms_answered : edgeRearms (answered r s) = edgeRearms s := by
  have h : AnswerShows r (edgePart (disarm s)) (edgePart (answered r (disarm s))) := AnswerShows.silent.edgePart
  exact h.dlArmed

/-- The edge handlers make no call, and so do not show the answer. -/
theorem edgePart_answered (hc : s.call = none) : edgePart (answered r s) = answered r (edgePart s) :=
  AnswerShows.silent.edgePart.eq_answered ((edgePart_call s).trans hc)

theorem answerShows_handlersState (hc : s.call = none) : AnswerShows r (handlersState s) (handlersState (answered r s)) := by
  have order : (answered r s).params = s.params := rfl
  unfold handlersState
  rw [order, edgeRearms_answered]
  cases s.params.simulOrder with
  | timerFirst => exact (answerShows_timerState r s).edgePart
  | edgeFirst =>
    refine .ite .rfl (fun _ => AnswerShows.silent.edgePart) fun _ => ?_
    rw [edgePart_answered r s hc]
    exact answerShows_timerState r (edgePart s)

theorem answerShows_tickState (hc : s.call = none) : AnswerShows r (tickState s) (tickState (answered r s)) :=
  (answerShows_handlersState r (countUp s) hc).followLine

end

end Sys2Proof.Machine

open Sys2Proof Sys2Proof.Machine

/-- Settles O50: the two ticks run side by side, and a call is the only place where the answer shows. -/
theorem applicationActsOnlyThroughACall : Obligations.ApplicationActsOnlyThroughACall := by
  intro s t t' i r h h'
  have shows : AnswerShows r t t' := by
    rw [← Host.Outcome.next.inj ((tickWith_eq _ _).symm.trans h), ← Host.Outcome.next.inj ((tickWith_eq _ _).symm.trans h')]
    exact answerShows_tickState r (samplePorts i s) rfl
  refine ⟨shows.call, shows.eq_answered, fun hc => ?_, fun hc => ?_, fun b hc => ?_⟩
  all_goals obtain ⟨tx, bit, drive, value, p, -, sent, turned, -⟩ := shows
  · obtain ⟨rfl, rfl⟩ := sent (.inr hc)
    obtain ⟨rfl, rfl⟩ := turned (by simp [hc])
    rfl
  · obtain ⟨rfl, rfl⟩ := turned (by simp [hc])
    rfl
  · rfl
end

section
/-! PROOFS. The cursor and the identity's wire order (R41 to R44, R145): byte and bit of the cursor are quotient and remainder of its
wire bit number. -/

namespace Sys2Proof.Machine

/-- `IdRead`, on the identity as a list of bytes (R41). -/
theorem idRead_eq_getLsbD (ident : Identity) (i k : Cursor) :
    idRead ident i k = (ident.toList.getD i.toNat 0#8).getLsbD k.toNat := by
  have hi : i.toNat < ident.toList.length := by simpa using i.isLt
  rw [idRead, byteBit, List.getD_eq_getElem?_getD, List.getElem?_eq_getElem hi, Option.getD_some, Vector.getElem_toList]

theorem wirePosition_lt (s : State) : wirePosition s < 64 := by
  have := s.bitCount.isLt
  unfold wirePosition
  omega

theorem wirePosition_div (s : State) : 7 - wirePosition s / 8 = s.idIndex.toNat := by
  have := s.idIndex.isLt
  have := s.bitCount.isLt
  unfold wirePosition
  omega

theorem wirePosition_mod (s : State) : wirePosition s % 8 = s.bitCount.toNat := by
  have := s.bitCount.isLt
  unfold wirePosition
  omega

/-- The identity bit under the cursor is the wire bit the cursor stands at (R41, R44). -/
theorem idBit_eq_idWireBit (s : State) : idBit s = idWireBit s.id (wirePosition s) := by
  rw [idWireBit, wirePosition_div, wirePosition_mod, BitVec.ofNat_toNat, BitVec.ofNat_toNat, BitVec.setWidth_eq, BitVec.setWidth_eq]
  rfl

/-- Away from the last bit `Advance()` moves the cursor one wire bit on, across a byte boundary too (R143, R145). -/
theorem wirePosition_advance {s : State} (h : lastBit s = false) : wirePosition (advance s) = wirePosition s + 1 := by
  have notLast : ¬ (s.idIndex = 0#3 ∧ s.bitCount = 7#3) := by
    rw [← lastBit_iff, h]
    exact Bool.false_ne_true
  rcases advance_cases s with ⟨hk, e⟩ | ⟨hk, e⟩ <;> rw [e] <;> simp only [wirePosition]
  · have hi : s.idIndex ≠ 0#3 := fun hi => notLast ⟨hi, hk⟩
    rw [hk]
    bv_omega
  · bv_omega

/-- `Advance()` writes the cursor only (R145). -/
theorem advance_frame (s : State) : advance s = { s with bitCount := (advance s).bitCount, idIndex := (advance s).idIndex } := by
  rcases advance_cases s with ⟨_, e⟩ | ⟨_, e⟩ <;> rw [e]

end Sys2Proof.Machine

open Sys2Proof Sys2Proof.Machine

/-- Settles O5: a wire bit number below 64 is eight times the bytes passed plus the bits passed in the current byte. -/
theorem identityWireOrder : Obligations.IdentityWireOrder := by
  refine ⟨fun ident n hn => ?_, fun s => ⟨idBit_eq_idWireBit s, wirePosition_lt s⟩,
    fun s h => ⟨wirePosition_advance h, advance_frame s⟩⟩
  have hbyte : (BitVec.ofNat 3 (7 - n / 8)).toNat = 7 - n / 8 := Nat.mod_eq_of_lt (by omega)
  have hbit : (BitVec.ofNat 3 (n % 8)).toNat = n % 8 := Nat.mod_eq_of_lt (by omega)
  rw [idWireBit, idRead_eq_getLsbD, hbyte, hbit]
end

section
/-! PROOFS. The tick in which a slot's deadline runs the command (R53, R127, R140, R141). -/

namespace Sys2Proof.Machine

/-- The state a slot's deadline hands to the dispatcher: the event taken, the ports sampled, counted, disarmed, the line released. -/
theorem releaseLine_disarm_started {s : State} {i : TickInput} {rest : List Event} (h : s.events = .tick i :: rest) :
    releaseLine (disarm (started i s)) = { s with
      dlArmed := false, dlMatched := false, driveLow := false, cnt := nextCount s, lineIn := lineLevel i.release s,
      alarmCondition := i.alarm, reply := i.reply, call := none, events := rest, steps := s.steps + 1 } := by
  simp only [started, takeEvent, samplePorts, countUp, disarm, releaseLine, nextCount, lineLevel, h, List.tail_cons]

/-- A tick with a deadline event in its window, no watchdog event and no edge that acts is the arm of the engine's state (R83, R84). -/
theorem step_deadline {s : State} {i : TickInput} {rest : List Event} (h : s.events = .tick i :: rest) (hd : DeadlineNext s)
    (hin : WindowNext s) (hw : ¬ WatchdogNext s) (hl : NoEdgeActs i s) :
    step s = .next (followLine (armState (disarm (started i s)))) := by
  rw [step_no_edge h hl, timerState_due ((started_due i s).2 hd) ((started_inWindow i s).2 hin) hw]

/-- The bit that completes the command byte runs it (R140, R141). -/
theorem processState_eighth {s : State} (hp : s.pstate = .write) (hm : s.romMatched = false) (hc : s.romCommand = 0#8)
    (hk : s.bitCount = 7#3) :
    processState s = execState (decodeByte (shiftIn s.lineIn s).currentByte) (shiftIn s.lineIn s) := by
  have hbit : handedBit s = s.lineIn := by rw [handedBit, hp]
  rw [processState_command hm hc, receiveState, if_neg (not_not_intro hp), if_pos hk, hbit]

end Sys2Proof.Machine

open Sys2Proof Sys2Proof.Machine

/-- Settles O27: the tick is the slot's deadline arm, whose dispatcher runs the byte just completed or the command received before. -/
theorem stepRunsTheDecodedCommand : Obligations.StepRunsTheDecodedCommand := by
  intro s s₀ i rest he hd hin hw hl hm h₀
  have dispatched (hp : s.pstate = .write ∨ s.pstate = .read) : step s = .next (followLine (processState s₀)) := by
    rw [step_deadline he hd hin hw hl, armState_slot (s := disarm (started i s)) hp, releaseLine_disarm_started he, h₀]
  have level : s₀.lineIn = lineLevel i.release s := by rw [h₀]
  have context : contextOf s₀ = contextOf s := by rw [h₀]; rfl
  simp only [contextOf, Prod.mk.injEq] at context
  obtain ⟨pstate, bitCount, currentByte, romCommand, romMatched, -⟩ := context
  refine ⟨fun hp hc hk b hb => ?_, fun hp hc => ?_⟩
  · have shifted : shiftIn s₀.lineIn s₀ = { s₀ with currentByte := b } := by rw [shiftIn, level, currentByte, hb]
    rw [dispatched (.inl hp), processState_eighth (pstate.trans hp) (romMatched.trans hm) (romCommand.trans hc) (bitCount.trans hk),
      shifted, exec_eq]
    rfl
  · rw [dispatched hp, processState_later (romMatched.trans hm) (romCommand ▸ hc), romCommand, exec_eq]
    rfl
end

section
/-! PROOFS. The command byte (R62 to R64): decoding and encoding undo each other. The step after `withFetchWord` (log 11). -/

namespace Sys2Proof

/-- The byte of a well-formed instruction has no other meaning (R63, R64). -/
theorem decodeByte_encodeByte {i : Instr} (h : i.wf = true) : decodeByte (encodeByte i) = i := by
  cases i with
  | searchRom => exact Laws.Decodes.searchRom h
  | matchRom => exact Laws.Decodes.matchRom h
  | skipRom => exact Laws.Decodes.skipRom h
  | readRom => exact Laws.Decodes.readRom h
  | alarmSearch => exact Laws.Decodes.alarmSearch h
  | unknown v => exact Laws.Decodes.unknown v h

theorem encodeByte_decodeByte (b : Byte) : encodeByte (decodeByte b) = b := by
  rcases Machine.decodeByte_cases b with ⟨rfl, e⟩ | ⟨rfl, e⟩ | ⟨rfl, e⟩ | ⟨rfl, e⟩ | ⟨rfl, e⟩ | e <;> rw [e] <;> rfl

/-- The five opcodes, and only they, are not unknown (R63, R64). -/
theorem not_mem_definedOpcodes_iff (b : Byte) : b ∉ definedOpcodes ↔ decodeByte b = .unknown b := by
  have defined : ∀ b ∈ definedOpcodes, decodeByte b ≠ .unknown b := by decide
  refine ⟨fun h => ?_, fun e h => defined b h e⟩
  simp only [definedOpcodes, List.mem_cons, List.not_mem_nil, or_false, not_or] at h
  obtain ⟨hF0, h55, hCC, h33, hEC⟩ := h
  rw [decodeByte, if_neg hF0, if_neg h55, if_neg hCC, if_neg h33, if_neg hEC]

theorem wf_decodeByte (b : Byte) : (decodeByte b).wf = true := by
  by_cases h : b ∈ definedOpcodes
  · have defined : ∀ b ∈ definedOpcodes, (decodeByte b).wf = true := by decide
    exact defined b h
  · rw [(not_mem_definedOpcodes_iff b).1 h]
    simpa [Instr.wf] using h

/-- A row of eight bits is one byte. -/
theorem tableBytes_eight (w : Nat) : tableBytes 8 w = [BitVec.ofNat 8 w] := by
  simp [tableBytes, ← BitVec.toNat_inj]

end Sys2Proof

namespace Sys2Proof.Machine

theorem fetchByte_eight (w : Nat) : fetchByte 8 w = BitVec.ofNat 8 w := by
  rw [fetchByte, tableBytes_eight, List.headD_cons]

/-- The eighth shift puts back the bit that making room for it dropped (R13). -/
theorem shiftIn_shiftLeft (b : Byte) : (BitVec.ofBool (b.getLsbD 7) ++ (b <<< 1).extractLsb' 1 7 : BitVec 8) = b := by
  apply BitVec.eq_of_getLsbD_eq
  intro k hk
  rw [shiftIn_bit]
  by_cases h : k = 7
  · simp [h]
  · have h₇ : k < 7 := by omega
    have h₈ : k + 1 < 8 := by omega
    rw [if_neg h, if_pos h₇, BitVec.getLsbD_shiftLeft, Nat.add_sub_cancel]
    simp [h₈]

section
variable {b : Byte} {s : State}

/-- With legal parameters the tick after `placeCommand` is that of the deadline, `DEADLINE_LATENCY` ticks after the match (R84). -/
theorem nextCount_placeCommand (h : s.params.Valid) : nextCount (placeCommand b s) = 40 + s.params.deadlineLatency := by
  have hpow := Params.Valid.pow_le h
  obtain ⟨-, -, -, hL⟩ := h
  have hc : (placeCommand b s).cnt = 40 + s.params.deadlineLatency - 1 := rfl
  have hp : (placeCommand b s).params = s.params := rfl
  rw [nextCount_eq (by rw [hc, hp]; omega), hc]
  omega

theorem deadlineNext_placeCommand (h : s.params.Valid) : DeadlineNext (placeCommand b s) := by
  have hn := nextCount_placeCommand (b := b) h
  have hpow := Params.Valid.pow_le h
  obtain ⟨-, -, -, hL⟩ := h
  have matched : nextMatched (placeCommand b s) = true := by
    rw [nextMatched_iff, hn]
    by_cases hz : s.params.deadlineLatency = 0
    · exact .inr ⟨rfl, by rw [hz]; rfl⟩
    · exact .inl (decide_eq_true (Nat.pos_of_ne_zero hz))
  exact ⟨rfl, matched, hn.trans (Nat.mod_eq_of_lt (show 40 + s.params.deadlineLatency < 2 ^ s.params.cntWidth by omega)).symm⟩

theorem windowNext_placeCommand (h : s.params.Valid) : WindowNext (placeCommand b s) := by
  have hn := nextCount_placeCommand (b := b) h
  have hcmp : (placeCommand b s).cmp = 40 := rfl
  obtain ⟨-, -, -, hL⟩ := h
  rw [WindowNext, hn, hcmp]
  omega

theorem not_watchdogNext_placeCommand (h : s.params.Valid) : ¬ WatchdogNext (placeCommand b s) := by
  have hn := nextCount_placeCommand (b := b) h
  obtain ⟨-, -, -, hL⟩ := h
  rw [WatchdogNext, hn, Config.tWdg]
  omega

end

end Sys2Proof.Machine

open Sys2Proof Sys2Proof.Machine

/-- Settles O1: the decoder takes the one byte of the encoding, which has no other meaning. -/
theorem commandByteRoundTrip : Obligations.CommandByteRoundTrip := by
  intro i rest h
  rw [encode, List.singleton_append, decode, decodeByte_encodeByte h]

/-- Settles O2: encoding undoes decoding, and only a byte outside the opcode map decodes to its unknown command. -/
theorem everyByteHasOneMeaning : Obligations.EveryByteHasOneMeaning :=
  ⟨fun b => ⟨wf_decodeByte b, congrArg (fun c => [c]) (encodeByte_decodeByte b), not_mem_definedOpcodes_iff b⟩,
    (not_mem_definedOpcodes_iff 0x00#8).1 (by decide)⟩

/-- Settles O3: the five words are the encodings of their commands; their bits are read off. -/
theorem opcodeMapWords : Obligations.OpcodeMapWords :=
  ⟨decodeByte_encodeByte (i := .searchRom) rfl, decodeByte_encodeByte (i := .matchRom) rfl, decodeByte_encodeByte (i := .skipRom) rfl,
    decodeByte_encodeByte (i := .readRom) rfl, decodeByte_encodeByte (i := .alarmSearch) rfl, by decide⟩

/-- Settles O28: the tick after `withFetchWord` is the deadline of an eighth command slot, and the bit on its line completes the byte
that the other seven were left of. -/
theorem fetchedWordIsRunByTheNextStep : Obligations.FetchedWordIsRunByTheNextStep := by
  intro s w h
  refine ⟨by rw [decodeTableWord, tableBytes_eight]; rfl, ?_⟩
  rw [State.withFetchWord, fetchByte_eight]
  generalize BitVec.ofNat 8 w = b
  have level : lineLevel (b.getLsbD 7) (placeCommand b s) = b.getLsbD 7 := Bool.and_true _
  obtain ⟨runs, -⟩ := stepRunsTheDecodedCommand (placeCommand b s) _ _ _ rfl (deadlineNext_placeCommand h)
    (windowNext_placeCommand h) (not_watchdogNext_placeCommand h) (.inl level) rfl rfl
  have run := runs rfl rfl rfl b (by rw [level]; exact (shiftIn_shiftLeft b).symm)
  rw [exec_eq, andThen_next] at run
  refine ⟨_, _, ?_, ?_, ?_, ?_, ?_, exec_eq _ _, run⟩ <;> rfl
end

section
/-! PROOFS. One slot of the master, tick by tick (R73, R74): the tick it starts in, the ticks that only count, the tick of its deadline. -/

namespace Sys2Proof.Machine

/-! ### Ticks that only count -/

/-- What `n` ticks leave in which the engine only counts, the last of them with the given inputs. -/
def counted (last : TickInput) (n : Nat) (rest : List Event) (s : State) : State :=
  { s with
    cnt := s.cnt + n, linePrev := lineLevel last.release s, lineIn := lineLevel last.release s,
    alarmCondition := last.alarm, reply := last.reply, call := none, events := rest, steps := s.steps + n }

theorem counted_counted (last i : TickInput) (n : Nat) (rest rest' : List Event) (s : State) :
    counted last n rest (counted i 1 rest' s) = counted last (n + 1) rest s := by
  simp only [counted, lineLevel, Nat.add_assoc, Nat.add_comm 1 n]

/-- In the next `n` ticks there is no timer event, and a rising edge does nothing (R83, R85, R110). -/
structure OnlyCounts (n : Nat) (s : State) : Prop where
  params : s.params.Valid
  riseEn : s.riseEn = false
  dlMatched : s.dlMatched = false
  before_deadline : s.dlArmed = true → s.cnt + n < s.cmp
  before_watchdog : s.cnt + n < 500

theorem OnlyCounts.counted {n : Nat} {s : State} (h : OnlyCounts (n + 1) s) (i : TickInput) (rest : List Event) :
    OnlyCounts n (counted i 1 rest s) where
  params := h.params
  riseEn := h.riseEn
  dlMatched := h.dlMatched
  before_deadline ha := by
    have hcmp := h.before_deadline ha
    show s.cnt + 1 + n < s.cmp
    omega
  before_watchdog := by
    have hcnt := h.before_watchdog
    show s.cnt + 1 + n < 500
    omega

/-- A counter below 500 does not wrap (R7). -/
theorem nextCount_of_lt {s : State} (hv : s.params.Valid) (hc : s.cnt < 500) : nextCount s = s.cnt + 1 :=
  nextCount_eq (by have hpow := Params.Valid.pow_le hv; omega)

/-- One such tick: as `step_counts`, and also with a rising edge in it. -/
theorem step_counted {n : Nat} {s : State} {i : TickInput} {rest : List Event} (h : OnlyCounts (n + 1) s)
    (he : s.events = .tick i :: rest) (hl : NoEdgeActs i s) : step s = .next (counted i 1 rest s) := by
  have hcnt := h.before_watchdog
  have hn : nextCount s = s.cnt + 1 := nextCount_of_lt h.params (by omega)
  have unmatched : nextMatched s = false := by
    rw [← Bool.not_eq_true, nextMatched_iff, hn, h.dlMatched]
    rintro (hm | ⟨ha, hm⟩)
    · cases hm
    · have hcmp := h.before_deadline ha
      omega
  have hd : ¬ DeadlineNext s := fun ⟨_, hm, _⟩ => by rw [unmatched] at hm; cases hm
  have hw : ¬ WatchdogNext s := by rw [WatchdogNext, hn, Config.tWdg]; omega
  have started_eq : started i s = { s with
      cnt := s.cnt + 1, dlMatched := false, lineIn := lineLevel i.release s, alarmCondition := i.alarm, reply := i.reply,
      call := none, events := rest, steps := s.steps + 1 } := by
    rw [← hn, ← unmatched, started, takeEvent, he]; rfl
  rw [step_quiet he hl hd hw, started_eq, ← h.dlMatched]
  rfl

/-- The line may rise, but it does not fall: once high it stays high. -/
abbrev NeverFalls (level : Bool) (levels : List Bool) : Prop := (level :: levels).Pairwise fun a b => a = true → b = true

/-- The first of those levels makes no edge that acts, where a rising edge is not enabled. -/
theorem NeverFalls.noEdgeActs {s : State} {i : TickInput} {levels : List Bool} (hr : s.riseEn = false)
    (h : NeverFalls s.linePrev (lineLevel i.release s :: levels)) : NeverFalls (lineLevel i.release s) levels ∧ NoEdgeActs i s := by
  obtain ⟨hhead, htail⟩ := List.pairwise_cons.1 h
  refine ⟨htail, ?_⟩
  have high := hhead _ List.mem_cons_self
  rw [NoEdgeActs, LineSteady, LineRises]
  cases hp : s.linePrev with
  | true => exact .inl (high hp)
  | false =>
    cases hl : lineLevel i.release s with
    | true => exact .inr ⟨⟨rfl, rfl⟩, hr⟩
    | false => exact .inl rfl

/-- `n + 1` such ticks on a line that does not fall, and then `k` more. -/
theorem runSteps_counted (k n : Nat) : ∀ {s : State} {inputs : List TickInput} {last : TickInput} {rest : List Event},
    OnlyCounts (n + 1) s → s.events = inputs.map Event.tick ++ rest → inputs[n]? = some last →
    NeverFalls s.linePrev (((inputs.map fun i => i.release).take (n + 1)).map fun r => lineLevel r s) →
    runSteps (k + (n + 1)) s = runSteps k (counted last (n + 1) ((inputs.drop (n + 1)).map Event.tick ++ rest) s) := by
  induction n with
  | zero =>
    intro s inputs last rest h he hlast hl
    cases inputs with
    | nil => cases hlast
    | cons i inputs =>
      obtain rfl := Option.some.inj hlast
      exact runSteps_succ k (step_counted h he (NeverFalls.noEdgeActs h.riseEn hl).2)
  | succ n ih =>
    intro s inputs last rest h he hlast hl
    cases inputs with
    | nil => cases hlast
    | cons i inputs =>
      obtain ⟨hlater, hnow⟩ := NeverFalls.noEdgeActs (i := i) h.riseEn hl
      rw [← Nat.add_assoc, runSteps_succ _ (step_counted (rest := inputs.map Event.tick ++ rest) h he hnow),
        ih (inputs := inputs) (h.counted i _) rfl hlast hlater, counted_counted]
      rfl

/-- The same with the line left to the others, whose level does not fall, until `inputs` end. -/
theorem runSteps_released {n : Nat} {s : State} {inputs : List TickInput} {last : TickInput} {rest : List Event}
    (h : OnlyCounts (n + 1) s) (hd : s.driveLow = false) (he : s.events = inputs.map Event.tick ++ rest)
    (hlen : inputs.length = n + 1) (hlast : inputs[n]? = some last)
    (hl : NeverFalls s.linePrev (inputs.map fun i => i.release)) : runSteps (n + 1) s = .next (counted last (n + 1) rest s) := by
  have released : ∀ r, lineLevel r s = r := fun r => by rw [lineLevel, hd]; exact Bool.and_true r
  have run := runSteps_counted 0 n h he hlast
    (by rw [funext released, List.map_id', ← List.map_take, List.take_of_length_le (Nat.le_of_eq hlen)]; exact hl)
  rwa [List.drop_eq_nil_of_le (Nat.le_of_eq hlen), Nat.zero_add] at run

/-! ### The slot's first tick -/

/-- An engine at the start of a slot: high line, nobody pulling, nothing pending, the watchdog away, no latency. -/
structure SlotAhead (s : State) : Prop where
  inv : Inv s
  latency : s.params.deadlineLatency = 0
  slot : InSlot s.pstate
  linePrev : s.linePrev = true
  driveLow : s.driveLow = false
  dlArmed : s.dlArmed = false
  cnt_lt : s.cnt < 499

theorem SlotAhead.not_idle {s : State} (h : SlotAhead s) : s.pstate ≠ .idle := by
  rcases h.slot with hp | hp <;> simp [hp]

theorem SlotAhead.armedValue_le {s : State} (h : SlotAhead s) : armedValue s ≤ 50 := by
  rcases h.slot with hp | hp <;> simp [armedValue, hp, Config.tWsample, Config.tRslot]

theorem SlotAhead.riseEn {s : State} (h : SlotAhead s) : s.riseEn = false := by simpa using mt h.inv.rise_idle h.not_idle

theorem SlotAhead.dlMatched {s : State} (h : SlotAhead s) : s.dlMatched = false := h.inv.nothing_latched h.latency

/-- Does the engine pull the line in a slot: only to send a 0 (R102, R103). -/
def slotPull (s : State) : Bool := s.pstate == .read && !s.readVal

/-- The state after the falling edge of a slot: the deadline is armed with the value of the engine's state (R102, R103, R126). -/
def slotStarted (i : TickInput) (rest : List Event) (s : State) : State :=
  { s with
    driveLow := slotPull s, cnt := 0, cmp := armedValue s, dlArmed := true, dlMatched := false, linePrev := false, lineIn := false,
    alarmCondition := i.alarm, reply := i.reply, call := none, events := rest, steps := s.steps + 1 }

/-- In either state of a slot a falling edge arms that state's deadline and sets the line's drive (R102, R103). -/
theorem fallingEdge_slot {s : State} (hp : InSlot s.pstate) (hd : s.driveLow = false) :
    fallingEdge s = scheduleAfter (armedValue s) { s with driveLow := slotPull s } := by
  rcases fallingEdge_cases s with ⟨h, _⟩ | ⟨h, edge⟩ | ⟨h, edge⟩ | ⟨h, _⟩
  · simp [InSlot, h] at hp
  · have value : armedValue s = Config.tWsample := by rw [armedValue, h]
    have pull : slotPull s = s.driveLow := by rw [slotPull, h, hd]; rfl
    rw [edge, value, pull]
  · have value : armedValue s = Config.tRslot := by rw [armedValue, h]
    have pull : slotPull s = !s.readVal := by rw [slotPull, h]; rfl
    rw [edge, value, pull]
  · rcases h with h | h <;> simp [InSlot, h] at hp

/-- The falling edge of a slot finds no timer event in its tick. -/
theorem step_slotStarted {s : State} {i : TickInput} {rest : List Event} (h : SlotAhead s) (he : s.events = .tick i :: rest)
    (hr : i.release = false) : step s = .next (slotStarted i rest s) := by
  have hcnt := h.cnt_lt
  have hd : deadlineDue (started i s) = false := by
    rw [← Bool.not_eq_true, started_due, DeadlineNext, h.dlArmed]
    rintro ⟨ha, -⟩
    cases ha
  have hw : nextCount s ≠ 500 := by
    rw [nextCount_of_lt h.inv.params (by omega)]
    omega
  have low : lineLevel i.release s = false := by rw [lineLevel, hr, Bool.false_and]
  have falls : edgePart (started i s) = fallingEdge (started i s) := edgePart_falling (s := started i s) h.linePrev low
  rw [step_started he, handlersState_no_timer hd hw, falls, fallingEdge_slot (s := started i s) h.slot h.driveLow]
  show Host.Outcome.next { slotStarted i s.events.tail s with linePrev := lineLevel i.release s, lineIn := lineLevel i.release s } = _
  rw [low, he]
  rfl

/-! ### The dispatcher neither reads nor writes the events to come -/

/-- The same engine with other events to come and another number of steps. -/
def onSchedule (rest : List Event) (n : Nat) (s : State) : State := { s with events := rest, steps := n }

section
variable (rest : List Event) (n : Nat) (s : State)

theorem advance_onSchedule : advance (onSchedule rest n s) = onSchedule rest n (advance s) := by
  simp only [advance, apply_ite (onSchedule rest n)]; rfl

theorem matchBit_onSchedule : matchBit (onSchedule rest n s) = onSchedule rest n (matchBit s) := by
  simp only [matchBit, apply_ite (onSchedule rest n)]; rfl

theorem searchBit_onSchedule : searchBit (onSchedule rest n s) = onSchedule rest n (searchBit s) := by
  simp only [searchBit, searchDirection, searchHalfSlot, apply_ite (onSchedule rest n), advance_onSchedule]; rfl

theorem readRomBit_onSchedule : readRomBit (onSchedule rest n s) = onSchedule rest n (readRomBit s) := by
  simp only [readRomBit, apply_ite (onSchedule rest n), advance_onSchedule]; rfl

theorem execState_onSchedule (i : Instr) : execState i (onSchedule rest n s) = onSchedule rest n (execState i s) := by
  cases i <;>
    simp only [execState, apply_ite (onSchedule rest n), matchBit_onSchedule, searchBit_onSchedule, readRomBit_onSchedule] <;> rfl

theorem receiveState_onSchedule : receiveState (onSchedule rest n s) = onSchedule rest n (receiveState s) := by
  simp only [receiveState, apply_ite (onSchedule rest n), ← execState_onSchedule]; rfl

theorem bridge_onSchedule : bridge (onSchedule rest n s) = onSchedule rest n (bridge s) := by
  simp only [bridge, bridgeReceive, bridgeTransmit_eq_ite, apply_ite (onSchedule rest n)]; rfl

theorem processState_onSchedule : processState (onSchedule rest n s) = onSchedule rest n (processState s) := by
  simp only [processState, apply_ite (onSchedule rest n), ← execState_onSchedule, ← receiveState_onSchedule, ← bridge_onSchedule]
  rfl

end

/-! ### The slot's deadline -/

/-- The levels a slot's master leaves the line at: it falls in the first tick and does not fall again, and with the engine's pull the
line is at `level` in tick `t + 2`, that of the deadline, and in the tick before it. -/
structure SlotLevels (levels : List Bool) (t : Nat) (pull level : Bool) : Prop where
  length : levels.length = 70
  starts : levels[0]? = some false
  before : NeverFalls false (((levels.drop 1).take (t + 1)).map fun r => r && !pull)
  eve : levels[t + 1]?.map (fun r => r && !pull) = some level
  sample : levels[t + 2]?.map (fun r => r && !pull) = some level
  after : NeverFalls level (levels.drop (t + 3))
  ends : levels[69]? = some true

/-- The engine as the deadline of the slot finds it, but for the events to come. -/
def atSample (i : TickInput) (level : Bool) (s : State) : State :=
  { s with
    lineIn := level, alarmCondition := i.alarm, reply := i.reply, call := none, cnt := armedValue s, cmp := armedValue s,
    linePrev := level }

section
variable {s : State} {inputs : List TickInput} {rest : List Event} {t : Nat} {level : Bool} {i₀ p i : TickInput}

theorem onlyCounts_slotStarted (h : SlotAhead s) (ht : armedValue s = t + 2) : OnlyCounts (t + 1) (slotStarted i₀ rest s) where
  params := h.inv.params
  riseEn := h.riseEn
  dlMatched := rfl
  before_deadline _ := by
    show 0 + (t + 1) < armedValue s
    omega
  before_watchdog := by
    have hle := h.armedValue_le
    show 0 + (t + 1) < 500
    omega

section
variable {u : State} {later : List Event} (h : SlotAhead s) (ht : armedValue s = t + 2)
  (hu : u = counted p (t + 1) (.tick i :: later) (slotStarted i₀ rest s))
include h ht hu

theorem nextCount_eve : nextCount u = t + 2 := by
  have hle := h.armedValue_le
  have hv : u.params.Valid := by rw [hu]; exact h.inv.params
  have hcnt : u.cnt = t + 1 := by rw [hu]; exact Nat.zero_add _
  rw [nextCount_of_lt hv (by omega), hcnt]

/-- In the tick after those counted ones the deadline is due, in its window. -/
theorem step_sample (hl : lineLevel i.release u = u.linePrev) : step u = .next (followLine (armState (disarm (started i u)))) := by
  have hle := h.armedValue_le
  have hpow := Params.Valid.pow_le h.inv.params
  have hn := nextCount_eve h ht hu
  have hcmp : u.cmp = t + 2 := by rw [hu, ← ht]; rfl
  have armed : u.dlArmed = true := by rw [hu]; rfl
  have params : u.params = s.params := by rw [hu]; rfl
  have due : DeadlineNext u := by
    refine ⟨armed, (nextMatched_iff u).2 (.inr ⟨armed, hn.trans hcmp.symm⟩), ?_⟩
    rw [hn, hcmp, params, h.latency, Nat.add_zero, Nat.mod_eq_of_lt (by omega)]
  have window : WindowNext u := by rw [WindowNext, hn, hcmp]; omega
  have unwatched : ¬ WatchdogNext u := by rw [WatchdogNext, hn, Config.tWdg]; omega
  exact step_deadline (by rw [hu]; rfl) due window unwatched (.inl hl)

/-- The dispatcher is handed the engine of `atSample`, and the events go on beside it. -/
theorem followLine_armState_sample (hp : (p.release && !slotPull s) = level) (hi : (i.release && !slotPull s) = level) :
    followLine (armState (disarm (started i u))) = onSchedule later (s.steps + (t + 3)) (armState (atSample i level s)) := by
  have hn := nextCount_eve h ht hu
  have slot : InSlot u.pstate := by rw [hu]; exact h.slot
  have handed : releaseLine (disarm (started i u)) = onSchedule later (s.steps + (t + 3)) (releaseLine (atSample i level s)) := by
    rw [releaseLine_disarm_started (rest := later) (by rw [hu]; rfl), hn, ← ht, hu]
    apply State.ext <;> simp [counted, slotStarted, onSchedule, atSample, lineLevel, hp, hi, h.dlArmed, h.dlMatched]
    omega
  have around := sameAround_process (releaseLine (atSample i level s))
  have followed := around.lineIn.trans around.linePrev.symm
  rw [armState_slot (s := disarm (started i u)) slot, handed, processState_onSchedule, armState_slot (s := atSample i level s) h.slot,
    followLine, onSchedule, followed]

end

/-- A slot up to its deadline, and `k` ticks more. -/
theorem runSteps_sampled (k : Nat) (h : SlotAhead s) (ht : armedValue s = t + 2)
    (hl : SlotLevels (inputs.map fun i => i.release) t (slotPull s) level) (hi : inputs[t + 2]? = some i)
    (he : s.events = inputs.map Event.tick ++ rest) :
    runSteps (k + (t + 3)) s =
      runSteps k (onSchedule ((inputs.drop (t + 3)).map Event.tick ++ rest) (s.steps + (t + 3)) (armState (atSample i level s))) := by
  obtain ⟨-, hstart, hbefore, heve, hsample, -, -⟩ := hl
  obtain ⟨i₀, h₀, release₀⟩ : ∃ i₀, inputs[0]? = some i₀ ∧ i₀.release = false := by simpa using hstart
  obtain ⟨p, hp, level_eve⟩ : ∃ p, inputs[t + 1]? = some p ∧ (p.release && !slotPull s) = level := by
    simpa [Option.map_eq_some_iff] using heve
  have level_sample : (i.release && !slotPull s) = level := by simpa [hi] using hsample
  have first : inputs = i₀ :: inputs.drop 1 := by
    have split := List.drop_eq_getElem?_toList_append (l := inputs) (i := 0)
    rwa [h₀] at split
  have sample : (inputs.drop 1).drop (t + 1) = i :: inputs.drop (t + 3) := by
    rw [List.drop_drop, Nat.add_comm 1, List.drop_eq_getElem?_toList_append, hi]
    rfl
  have eve : (inputs.drop 1)[t]? = some p := by rw [List.getElem?_drop, Nat.add_comm]; exact hp
  rw [← List.map_drop] at hbefore
  have start := step_slotStarted (i := i₀) (rest := (inputs.drop 1).map Event.tick ++ rest) h (by rw [he, first]; rfl) release₀
  have count := runSteps_counted (k + 1) t (rest := rest) (onlyCounts_slotStarted (i₀ := i₀) h ht) rfl eve hbefore
  rw [sample, List.map_cons, List.cons_append] at count
  calc runSteps (k + (t + 3)) s
    _ = runSteps (k + 1 + (t + 1)) _ := by rw [← runSteps_succ _ start]; congr 1; omega
    _ = runSteps (k + 1) _ := count
    _ = _ := by
      rw [runSteps_succ _ (step_sample h ht rfl (level_sample.trans level_eve.symm)),
        followLine_armState_sample h ht rfl level_eve level_sample]

/-! ### The rest of the slot -/

/-- A slot's deadline leaves the timer where it found it, unarmed, and the line released. -/
theorem sameAround_armState_sample (h : SlotAhead s) :
    SameAround (releaseLine (atSample i level s)) (armState (atSample i level s)) := by
  rw [armState_slot (s := atSample i level s) h.slot]
  exact sameAround_process _

theorem onlyCounts_sampled {n m : Nat} (h : SlotAhead s) (hm : armedValue s + m < 500) :
    OnlyCounts m (onSchedule rest n (armState (atSample i level s))) := by
  have around := sameAround_armState_sample (i := i) (level := level) h
  exact {
    params := by rw [onSchedule, around.params]; exact h.inv.params
    riseEn := around.riseEn.trans h.riseEn
    dlMatched := around.dlMatched.trans h.dlMatched
    before_deadline := by
      have unarmed : (onSchedule rest n (armState (atSample i level s))).dlArmed = false := around.dlArmed.trans h.dlArmed
      simp [unarmed]
    before_watchdog := by
      have hcnt : (onSchedule rest n (armState (atSample i level s))).cnt = armedValue s := around.cnt
      rw [hcnt]
      exact hm }

/-- A whole slot: one deadline, and nothing before it or after it. -/
theorem runSteps_slot {last : TickInput} (h : SlotAhead s) (ht : armedValue s = t + 2)
    (hl : SlotLevels (inputs.map fun i => i.release) t (slotPull s) level) (hi : inputs[t + 2]? = some i)
    (hlast : inputs[69]? = some last) (he : s.events = inputs.map Event.tick ++ rest) :
    ∃ u : State, deadlineArm (atSample i level s) = .next u ∧
      runSteps (t + 3) s =
        .next { u with events := (inputs.drop (t + 3)).map Event.tick ++ rest, steps := s.steps + (t + 3) } ∧
      runSteps 70 s = .next { u with
        alarmCondition := last.alarm, reply := last.reply, call := none, cnt := 69, lineIn := true, linePrev := true,
        events := rest, steps := s.steps + 70 } := by
  refine ⟨_, deadlineArm_eq _, ?_, ?_⟩
  · have run := runSteps_sampled 0 h ht hl hi he
    rwa [Nat.zero_add] at run
  · have around := sameAround_armState_sample (i := i) (level := level) h
    have hle := h.armedValue_le
    obtain ⟨m, hm⟩ : ∃ m, t + m = 66 := ⟨66 - t, by omega⟩
    have hlen : (inputs.drop (t + 3)).length = m + 1 := by
      rw [List.length_drop, ← List.length_map (f := fun i => i.release), hl.length]; omega
    have remaining : (inputs.drop (t + 3))[m]? = some last := by
      rw [List.getElem?_drop, show t + 3 + m = 69 by omega]; exact hlast
    have high : last.release = true := by simpa [hlast] using hl.ends
    have after : NeverFalls (armState (atSample i level s)).linePrev ((inputs.drop (t + 3)).map fun i => i.release) := by
      rw [List.map_drop, around.linePrev]; exact hl.after
    have counts : OnlyCounts (m + 1) (onSchedule ((inputs.drop (t + 3)).map Event.tick ++ rest) (s.steps + (t + 3))
        (armState (atSample i level s))) := onlyCounts_sampled h (by omega)
    rw [show 70 = m + 1 + (t + 3) by omega, runSteps_sampled (m + 1) h ht hl hi he,
      runSteps_released counts around.driveLow rfl hlen remaining after]
    congr 1
    have hcnt : (armState (atSample i level s)).cnt = armedValue s := around.cnt
    have released : (armState (atSample i level s)).driveLow = false := around.driveLow
    apply State.ext <;> simp [counted, onSchedule, lineLevel, high, hcnt, released]
    · omega
    · omega

end

/-- A write slot at the engine's sample, 40 ticks after its fall (R73, R102). -/
theorem slotLevels_writeSlot (b : Bool) : SlotLevels (Stimulus.writeSlot b).levels 38 false b := by
  cases b <;> constructor <;> decide

/-- A read slot at the engine's release, 50 ticks after its fall: the engine holds the line low for a 0 (R74, R103). -/
theorem slotLevels_readSlot (v : Bool) : SlotLevels Stimulus.readSlot.levels 48 (!v) v := by
  cases v <;> constructor <;> decide

end Sys2Proof.Machine

open Sys2Proof Sys2Proof.Machine

/-- Settles O57: the sample of a write slot is its one deadline, and the line carries the master's bit then. -/
theorem writeSlotDeliversItsBit : Obligations.WriteSlotDeliversItsBit := by
  intro s b inputs i₄₀ i₆₉ rest h latency hp hprev ha hc levels hi hlast he
  have undriven : s.driveLow = false := h.toBase.undriven (by simp [hp]) (by simp [hp])
  have ahead : SlotAhead s := ⟨h, latency, .inl hp, hprev, undriven, ha, hc⟩
  have value : armedValue s = 40 := by rw [armedValue, hp]
  have pull : slotPull s = false := by rw [slotPull, hp]; rfl
  have line : SlotLevels (inputs.map fun i => i.release) 38 (slotPull s) b := by
    rw [levels, pull]; exact slotLevels_writeSlot b
  have slot := runSteps_slot ahead value line hi hlast he
  rwa [atSample, value] at slot

/-- Settles O58: the release of a read slot is its one deadline, and the line carries the engine's own bit then. -/
theorem readSlotDispatchesTheSentBit : Obligations.ReadSlotDispatchesTheSentBit := by
  intro s inputs i₅₀ i₆₉ rest h latency hp hprev undriven ha hc levels hi hlast he
  have ahead : SlotAhead s := ⟨h, latency, .inr hp, hprev, undriven, ha, hc⟩
  have value : armedValue s = 50 := by rw [armedValue, hp]
  have pull : slotPull s = !s.readVal := by rw [slotPull, hp]; rfl
  have line : SlotLevels (inputs.map fun i => i.release) 48 (slotPull s) s.readVal := by
    rw [levels, pull]; exact slotLevels_readSlot s.readVal
  have slot := runSteps_slot ahead value line hi hlast he
  rwa [atSample, value] at slot
end

section
/-! PROOFS. A tick of the timing engine, part by part: the edges that do nothing, the deadline event in and out of its window, the
watchdog event (R80 to R86, R100 to R110). -/

namespace Sys2Proof.Machine

/-! ### The state the handlers start from -/

theorem started_eq {s : State} {i : TickInput} {rest : List Event} (h : s.events = .tick i :: rest) :
    started i s = { s with
      cnt := nextCount s, dlMatched := nextMatched s, lineIn := lineLevel i.release s, alarmCondition := i.alarm, reply := i.reply,
      call := none, events := rest, steps := s.steps + 1 } := by
  simp only [started, takeEvent, samplePorts, countUp, nextCount, nextMatched, lineLevel, h, List.tail_cons]

theorem started_not_due {s : State} (i : TickInput) (h : ¬ DeadlineNext s) : deadlineDue (started i s) = false := by
  simpa using mt (started_due i s).1 h

/-! ### Edges that do nothing -/

/-- During presence every edge is ignored (R104, R110). -/
theorem edgePart_presence {s : State} (hp : InPresence s) : edgePart s = s := by
  have notIdle : s.pstate ≠ .idle := by rcases hp with hp | hp <;> simp [hp]
  rcases edgePart_cases s with ⟨_, e⟩ | ⟨_, _, e⟩ | ⟨_, _, e⟩ <;> rw [e]
  · rcases hp with hp | hp <;> rw [fallingEdge, hp]
  · exact if_neg fun h => notIdle h.1

theorem edgeRearms_presence {s : State} (hp : InPresence s) : edgeRearms s = false := by
  rw [edgeRearms, edgePart_presence (s := disarm s) hp, disarm_dlArmed]

/-- A rising edge is measured only in `Idle` with `rise_en = 1` (R110). -/
theorem edgePart_not_measured {s : State} (h₁ : s.linePrev = false) (h₂ : s.lineIn = true)
    (h₃ : s.pstate ≠ .idle ∨ s.riseEn = false) : edgePart s = s := by
  rw [edgePart_rising h₁ h₂]
  exact if_neg fun ⟨hp, hr⟩ => h₃.elim (fun h => h hp) fun h => by simp [hr] at h

/-! ### The timer part -/

/-- A deadline event outside its window consumes its arming and does nothing else (R84). -/
theorem timerState_late {s : State} (h₁ : deadlineDue s = true) (h₂ : inWindow (disarm s) = false) (h₃ : s.cnt ≠ 500) :
    timerState s = disarm s := by
  simp [timerState, deadlineState, h₁, h₂, watchdogPart, h₃]

/-- The watchdog event, after the deadline part (R80, R85). -/
theorem timerState_at_watchdog {s : State} (h : s.cnt = 500) : timerState s = watchdogHandler (deadlineState s) := if_pos h

/-- The wide timeout's handler is empty: in its window or not, only its arming is consumed (R125). -/
theorem deadlineState_of_due_idle {s : State} (h : deadlineDue s = true → s.pstate = .idle) :
    deadlineState s = if deadlineDue s then disarm s else s := by
  cases hd : deadlineDue s with
  | false => simp [deadlineState, hd]
  | true => simp [deadlineState, hd, armState, h hd]

/-! ### The two orders -/

/-- A falling edge in `Idle`, `Write` and `Read` re-arms the timer (R101 to R103). -/
theorem edgeRearms_falling {s : State} (h₁ : s.linePrev = true) (h₂ : s.lineIn = false) (hp : ¬ InPresence s) :
    edgeRearms s = true := by
  rw [edgeRearms, edgePart_falling (s := disarm s) h₁ h₂]
  rcases fallingEdge_cases (disarm s) with ⟨_, e⟩ | ⟨_, e⟩ | ⟨_, e⟩ | ⟨h, _⟩
  · rw [e, scheduleAfter_dlArmed]
  · rw [e, scheduleAfter_dlArmed]
  · rw [e, scheduleAfter_dlArmed]
  · exact absurd h hp

/-- Outside presence a falling edge writes the timer, with a value for each state, and in `Idle` and `Read` one register more. -/
theorem fallingEdge_outside {s : State} (hp : ¬ InPresence s) :
    fallingEdge s = { s with
      cnt := 0, dlArmed := true, dlMatched := false,
      cmp := if s.pstate = .idle then s.params.resetTimeoutCmp else if s.pstate = .write then 40 else 50,
      riseEn := if s.pstate = .idle then true else s.riseEn,
      driveLow := if s.pstate = .read then !s.readVal else s.driveLow } := by
  rcases fallingEdge_cases s with ⟨h, e⟩ | ⟨h, e⟩ | ⟨h, e⟩ | ⟨h, _⟩
  · simp [e, h, scheduleAfter]
  · simp [e, h, scheduleAfter]
  · simp [e, h, scheduleAfter]
  · exact absurd h hp

section
variable {s : State} {i : TickInput} {rest : List Event} (he : s.events = .tick i :: rest)
include he

/-- With the timer first a falling edge is handled in the state the timer part leaves (R212). -/
theorem step_falling_timerFirst (order : s.params.simulOrder = .timerFirst) (hl : LineFalls i s) :
    step s = .next (followLine (fallingEdge (timerState (started i s)))) := by
  have order : (started i s).params.simulOrder = .timerFirst := order
  have outside := sameOutside_timer (started i s)
  rw [step_started he, handlersState, order, edgePart_falling (outside.linePrev.trans hl.1) (outside.lineIn.trans hl.2)]

/-- With the edge first a falling edge outside presence is the whole tick (R82, R212). -/
theorem step_falling_edgeFirst (order : s.params.simulOrder = .edgeFirst) (hl : LineFalls i s) (hp : ¬ InPresence s) :
    step s = .next (followLine (fallingEdge (started i s))) := by
  have order : (started i s).params.simulOrder = .edgeFirst := order
  rw [step_started he, handlersState, order, edgePart_falling (s := started i s) hl.1 hl.2]
  simp only [edgeRearms_falling (s := started i s) hl.1 hl.2 hp, if_true]

/-- With the edge first a tick in presence is its timer part, whatever the line does (R104, R110). -/
theorem step_presence_edgeFirst (order : s.params.simulOrder = .edgeFirst) (hp : InPresence s) :
    step s = .next (followLine (timerState (started i s))) := by
  have order : (started i s).params.simulOrder = .edgeFirst := order
  rw [step_started he, handlersState, order, edgePart_presence (s := started i s) hp]
  simp [edgeRearms_presence (s := started i s) hp]

end

end Sys2Proof.Machine

open Sys2Proof Sys2Proof.Machine

/-- Settles O14: in each of the three cases the edge part does nothing, and there is no timer part. -/
theorem otherEdgesDoNothing : Obligations.OtherEdgesDoNothing := by
  intro s i rest he hd hw hl
  have ignored : edgePart (started i s) = started i s := by
    rcases hl with ⟨_, hp⟩ | ⟨⟨h₁, h₂⟩, h₃⟩ | hl
    · exact edgePart_presence (s := started i s) hp
    · exact edgePart_not_measured (s := started i s) h₁ h₂ h₃
    · exact edgePart_steady (s := started i s) hl
  rw [step_started he, handlersState_no_timer (started_not_due i hd) hw, ignored, started_eq he]
  rfl

/-- Settles O18: the tick is its deadline part, and the handler is in its window. -/
theorem deadlineRunsTheArmOfItsState : Obligations.DeadlineRunsTheArmOfItsState := by
  intro s i rest he hd hin hw hl
  rw [step_deadline he hd hin hw hl, started_eq he, deadlineArm_eq]
  rfl

/-- Settles O21: the tick is its deadline part, and the handler is out of its window. -/
theorem lateDeadlineIsDropped : Obligations.LateDeadlineIsDropped := by
  intro s i rest he hd hin hw hl
  have late : inWindow (disarm (started i s)) = false := by simpa using mt (started_inWindow i s).1 hin
  rw [step_no_edge he hl, timerState_late ((started_due i s).2 hd) late hw, started_eq he]
  rfl

/-- Settles O22: the timer part is the watchdog's, over an arming consumed at most. It is the whole tick without an edge and in
presence with the edge first, it comes before a falling edge with the timer first, and it is postponed by one with the edge first. -/
theorem watchdogForcesIdle : Obligations.WatchdogForcesIdle := by
  intro s s₀ i rest he hw hi h₀
  have timer : timerState (started i s) = watchdogHandler (if deadlineDue (started i s) then disarm (started i s) else started i s) := by
    rw [timerState_at_watchdog hw, deadlineState_of_due_idle (s := started i s) fun h => hi ((started_due i s).1 h)]
  have count : nextCount s = 500 := hw
  have watched : followLine (timerState (started i s)) = s₀ := by
    rw [timer, h₀]
    by_cases hd : DeadlineNext s
    · rw [if_pos hd, if_pos hd, if_pos ((started_due i s).2 hd), started_eq he, count]; rfl
    · rw [if_neg hd, if_neg hd, started_not_due i hd, started_eq he, count]; rfl
  refine ⟨fun hl => ?_, fun hl order => ?_, fun hl order => ⟨fun hp => ?_, fun hp => ?_⟩⟩
  · rw [step_no_edge he hl, watched]
  · have idle : (timerState (started i s)).pstate = .idle := by rw [timer]; rfl
    rw [step_falling_timerFirst he order hl, fallingEdge, idle, (sameOutside_timer (started i s)).params, ← watched]
    rfl
  · rw [step_presence_edgeFirst he order hp, watched]
  · have outside : ¬ InPresence s := by rcases hp with hp | hp | hp <;> simp [InPresence, hp]
    rw [step_falling_edgeFirst he order hl outside, fallingEdge_outside (s := started i s) outside, started_eq he, hl.2]
    rfl
end

section
/-! PROOFS. What the counter does in a tick (R80, R87), and where a line that keeps its level leads (R85, R86, S7). -/

namespace Sys2Proof.Machine

/-! ### The deadline part and the timer part -/

/-- What the deadline part can do: nothing, consume the arming, a slot's deadline, or one of the two of the presence sequence
(R120 to R125). -/
theorem deadlineState_cases (s : State) :
    deadlineState s = s ∨ deadlineState s = disarm s ∨
    (InSlot s.pstate ∧ deadlineState s = processState (releaseLine (disarm s))) ∨
    (s.pstate = .presencePulse ∧ deadlineState s = { releaseLine (disarm s) with pstate := .write }) ∨
    (s.pstate = .presenceWait ∧
      deadlineState s = scheduleAfter Config.tPpulse { driveLine (disarm s) with pstate := .presencePulse }) := by
  cases hd : deadlineDue s with
  | false => exact .inl (by simp [deadlineState, hd])
  | true =>
    cases hw : inWindow (disarm s) with
    | false => exact .inr (.inl (by simp [deadlineState, hd, hw]))
    | true =>
      have arm : deadlineState s = armState (disarm s) := by simp [deadlineState, hd, hw]
      rw [arm]
      cases hp : s.pstate with
      | idle => exact .inr (.inl (by simp [armState, hp]))
      | write => exact .inr (.inr (.inl ⟨.inl rfl, armState_slot (s := disarm s) (.inl hp)⟩))
      | read => exact .inr (.inr (.inl ⟨.inr rfl, armState_slot (s := disarm s) (.inr hp)⟩))
      | presencePulse => exact .inr (.inr (.inr (.inl ⟨rfl, by simp [armState, hp]⟩)))
      | presenceWait => exact .inr (.inr (.inr (.inr ⟨rfl, by simp [armState, hp]⟩)))

/-- The deadline part zeroes the counter only where the presence pulse starts (R124). -/
theorem deadlineState_cnt (s : State) :
    (deadlineState s).cnt = s.cnt ∨
    ((deadlineState s).cnt = 0 ∧ s.pstate = .presenceWait ∧ (deadlineState s).pstate = .presencePulse) := by
  rcases deadlineState_cases s with e | e | ⟨_, e⟩ | ⟨_, e⟩ | ⟨hp, e⟩ <;> rw [e]
  · exact .inl rfl
  · exact .inl rfl
  · exact .inl (sameAround_process _).cnt
  · exact .inl rfl
  · exact .inr ⟨rfl, hp, rfl⟩

/-- So does the timer part: on the watchdog's count no presence pulse starts. -/
theorem timerState_cnt {s : State} (b : InvBase s) :
    (timerState s).cnt = s.cnt ∨ ((timerState s).cnt = 0 ∧ s.pstate = .presenceWait ∧ (timerState s).pstate = .presencePulse) := by
  unfold timerState
  rcases watchdogPart_cases s.cnt (deadlineState s) with ⟨hc, e⟩ | ⟨_, e⟩ <;> rw [e]
  · rcases deadlineState_watchdog b hc with d | d <;> rw [d] <;> exact .inl rfl
  · exact deadlineState_cnt s

/-- A slot's deadline or the watchdog ends in `Idle`, `Write` or `Read`. -/
theorem slotPhase_timerState {s : State} (h : SlotPhase s) : SlotPhase (timerState s) := by
  have outside := h.not_presence
  unfold timerState
  rcases watchdogPart_cases s.cnt (deadlineState s) with ⟨_, e⟩ | ⟨_, e⟩ <;> rw [e]
  · exact .idle rfl (by simp)
  · rcases deadlineState_cases s with d | d | ⟨hp, d⟩ | ⟨hp, _⟩ | ⟨hp, _⟩
    · rw [d]; exact h
    · rw [d]; exact h.congr rfl
    · rw [d]
      exact slotPhase_process (s := releaseLine (disarm s)) (h.congr rfl) (by rcases hp with hp | hp <;> simp [hp])
    · exact absurd (.inr hp) outside
    · exact absurd (.inl hp) outside

/-- Outside presence the timer part never pulls the line. -/
theorem timerState_released {s : State} (hp : ¬ InPresence s) (h : s.driveLow = false) : (timerState s).driveLow = false := by
  have released : (deadlineState s).driveLow = false := by
    rcases deadlineState_cases s with d | d | ⟨_, d⟩ | ⟨_, d⟩ | ⟨hw, _⟩
    · rw [d]; exact h
    · rw [d]; exact h
    · rw [d]; exact (sameAround_process _).driveLow
    · rw [d]; rfl
    · exact absurd (.inl hw) hp
  unfold timerState
  rcases watchdogPart_cases s.cnt (deadlineState s) with ⟨_, e⟩ | ⟨_, e⟩ <;> rw [e] <;> exact released

/-! ### The counter -/

/-- The edge part zeroes the counter at the falling edges of `Idle`, `Write` and `Read`, which keep the state, and at an accepted
rising edge (R101 to R103, R108). -/
theorem edgePart_cnt (s : State) :
    (edgePart s).cnt = s.cnt ∨
    ((edgePart s).cnt = 0 ∧
      ((s.linePrev = true ∧ s.lineIn = false ∧ ¬ InPresence (edgePart s)) ∨
       (s.linePrev = false ∧ s.lineIn = true ∧ s.pstate = .idle ∧ s.riseEn = true ∧ (edgePart s).pstate = .presenceWait))) := by
  rcases edgePart_cases s with ⟨_, e⟩ | ⟨h₁, h₂, e⟩ | ⟨h₁, h₂, e⟩ <;> rw [e]
  · exact .inl rfl
  · by_cases hp : InPresence s
    · rw [← e, edgePart_presence hp]; exact .inl rfl
    · rw [fallingEdge_outside hp]; exact .inr ⟨rfl, .inl ⟨h₁, h₂, hp⟩⟩
  · rcases risingEdge_cases s with r | ⟨_, _, _, r⟩ | ⟨hi, hr, _, r⟩ <;> rw [r]
    · exact .inl rfl
    · exact .inl rfl
    · exact .inr ⟨rfl, .inr ⟨h₁, h₂, hi, hr, rfl⟩⟩

/-- The parts of a tick, in either order, zero the counter at these five points only (R87). -/
theorem handlersState_cnt {s : State} (b : InvBase s) :
    (handlersState s).cnt = s.cnt ∨
    ((handlersState s).cnt = 0 ∧
      ((s.linePrev = true ∧ s.lineIn = false ∧ ¬ InPresence (handlersState s)) ∨
       (s.linePrev = false ∧ s.lineIn = true ∧ s.pstate = .idle ∧ (handlersState s).pstate = .presenceWait) ∨
       (s.pstate = .presenceWait ∧ (handlersState s).pstate = .presencePulse))) := by
  rcases handlersState_cases s with e | ⟨_, e⟩ | ⟨hr, e⟩ <;> rw [e]
  · rcases timerState_cnt b with hc | ⟨hc, hw, hp⟩
    · have outside := sameOutside_timer s
      rw [← hc, ← outside.linePrev, ← outside.lineIn]
      rcases edgePart_cnt (timerState s) with h | ⟨h, ⟨h₁, h₂, hp⟩ | ⟨h₁, h₂, _, enabled, hp⟩⟩
      · exact .inl h
      · exact .inr ⟨h, .inl ⟨h₁, h₂, hp⟩⟩
      · exact .inr ⟨h, .inr (.inl ⟨h₁, h₂, b.rise_idle (outside.riseEn ▸ enabled), hp⟩)⟩
    · rw [edgePart_presence (.inr hp)]
      exact .inr ⟨hc, .inr (.inr ⟨hw, hp⟩)⟩
  · rcases edgePart_cnt s with h | ⟨h, ⟨h₁, h₂, hp⟩ | ⟨h₁, h₂, hi, _, hp⟩⟩
    · exact .inl h
    · exact .inr ⟨h, .inl ⟨h₁, h₂, hp⟩⟩
    · exact .inr ⟨h, .inr (.inl ⟨h₁, h₂, hi, hp⟩)⟩
  · have kept : (edgePart s).pstate = s.pstate := by
      rcases edgePart_rearms_cases s with ⟨_, e | e⟩ | ⟨h, _⟩
      · rw [e]
      · rw [e]; rfl
      · simp [hr] at h
    rw [← (edgePart_timer_of_not_rearms hr).1, ← kept]
    rcases timerState_cnt (edgePart_of_not_rearms b hr).1 with h | ⟨h, hw, hp⟩
    · exact .inl h
    · exact .inr ⟨h, .inr (.inr ⟨hw, hp⟩)⟩

theorem not_presence_iff (s : State) : ¬ InPresence s ↔ s.pstate = .idle ∨ s.pstate = .write ∨ s.pstate = .read := by
  unfold InPresence
  cases s.pstate <;> simp

/-! ### A line that keeps its level -/

/-- An engine outside presence on a line that keeps its level: high, and then the engine does not pull it, or low. On the watchdog's
count it is back in `Idle` (R86). -/
structure Silent (level : Bool) (s : State) : Prop where
  inv : Inv s
  outside : ¬ InPresence s
  linePrev : s.linePrev = level
  released : level = true → s.driveLow = false
  ended : s.cnt = 500 → s.pstate = .idle ∧ ContextClear s

section
variable {level : Bool} {s : State}

theorem Silent.lineSteady (h : Silent level s) {i : TickInput} (hi : i.release = level) : LineSteady i s := by
  rw [LineSteady, lineLevel, hi, h.linePrev]
  cases level with
  | false => rfl
  | true => rw [h.released rfl]; rfl

/-- In silence every tick counts, and the watchdog's ends what was going on (R86, R87). -/
theorem Silent.step (h : Silent level s) {i : TickInput} {rest : List Event} (he : s.events = .tick i :: rest)
    (hi : i.release = level) (hc : s.cnt < 500) :
    ∃ t, step s = .next t ∧ Silent level t ∧ t.cnt = s.cnt + 1 ∧ t.events = rest := by
  have steady := h.lineSteady hi
  have stepped := step_no_edge he (.inl steady)
  have around := sameOutside_timer (started i s)
  have slot : SlotPhase (started i s) := (h.inv.toPhase.slot h.outside).congr rfl
  have counts : (timerState (started i s)).cnt = nextCount s := by
    rcases timerState_cnt (h.inv.toBase.started i) with hn | ⟨_, hp, _⟩
    · exact hn
    · exact absurd (.inl hp) h.outside
  have outside := (slotPhase_timerState slot).not_presence
  refine ⟨_, stepped, ⟨stepKeepsInvariant s _ h.inv stepped, outside, ?_, fun hl => ?_, fun h₅₀₀ => ?_⟩,
    counts.trans (nextCount_of_lt h.inv.params hc), ?_⟩
  · exact (around.lineIn.trans steady).trans h.linePrev
  · exact timerState_released (s := started i s) h.outside (h.released hl)
  · rw [timerState_at_watchdog (s := started i s) (counts.symm.trans h₅₀₀)]
    exact ⟨rfl, rfl, rfl, rfl, rfl, rfl, rfl, rfl⟩
  · rw [followLine_events, around.events, started_eq he]

theorem Silent.runSteps {inputs : List TickInput} {rest : List Event} (h : Silent level s) (hlen : s.cnt + inputs.length = 500)
    (hi : ∀ i ∈ inputs, i.release = level) (he : s.events = inputs.map Event.tick ++ rest) :
    ∃ t, runSteps inputs.length s = .next t ∧ Silent level t ∧ t.cnt = 500 := by
  induction inputs generalizing s with
  | nil => exact ⟨s, rfl, h, hlen⟩
  | cons i inputs ih =>
    rw [List.length_cons] at hlen
    obtain ⟨now, later⟩ := List.forall_mem_cons.1 hi
    obtain ⟨u, stepped, silent, count, events⟩ := h.step he now (by omega)
    rw [List.length_cons, runSteps_succ _ stepped]
    exact ih silent (by omega) later events

end

end Sys2Proof.Machine

open Sys2Proof Sys2Proof.Machine

/-- Settles O24: the handlers of a tick start from the incremented count, and zero it at the five points only. -/
theorem counterZeroedOnlyAtFivePoints : Obligations.CounterZeroedOnlyAtFivePoints := by
  intro s t i rest h he ht
  obtain rfl := Host.Outcome.next.inj ((step_started he).symm.trans ht)
  rcases handlersState_cnt (h.toBase.started i) with hc | ⟨hc, ⟨h₁, h₂, hp⟩ | ⟨h₁, h₂, hi, hp⟩ | ⟨hw, hp⟩⟩
  · exact .inl hc
  · exact .inr ⟨hc, .inl ⟨⟨h₁, h₂⟩, (not_presence_iff _).1 hp⟩⟩
  · exact .inr ⟨hc, .inr (.inl ⟨⟨h₁, h₂⟩, hi, hp⟩)⟩
  · exact .inr ⟨hc, .inr (.inr ⟨hw, hp⟩)⟩

/-- Settles O56: every tick of the silence counts, so the last one is the watchdog's. -/
theorem silenceEndsTheTransaction : Obligations.SilenceEndsTheTransaction := by
  intro s level inputs rest h hw hp hl released hc hlen hi he
  have outside : ¬ InPresence s := fun p => p.elim hw hp
  have silent : Silent level s := ⟨h, outside, hl, released, fun h₅₀₀ => by omega⟩
  obtain ⟨t, run, quiet, count⟩ := silent.runSteps (by omega) hi he
  obtain ⟨idle, clear⟩ := quiet.ended count
  exact ⟨t, hlen ▸ run, idle, clear, quiet.inv.toBase.undriven (by simp [idle]) (by simp [idle]), count⟩
end

section
/-! PROOFS. The edge handlers (R100 to R110): a falling edge in a tick without a watchdog event, and a rising edge that is measured, with
whatever timer event comes in its tick. -/

namespace Sys2Proof.Machine

/-! ### Falling edges -/

/-- A falling edge in a tick without a timer event is the whole tick, in either order. -/
theorem step_falling {s : State} {i : TickInput} {rest : List Event} (he : s.events = .tick i :: rest) (hl : LineFalls i s)
    (hd : ¬ DeadlineNext s) (hw : ¬ WatchdogNext s) : step s = .next (followLine (fallingEdge (started i s))) := by
  rw [step_started he, handlersState_no_timer (started_not_due i hd) hw, edgePart_falling (s := started i s) hl.1 hl.2]

/-- Away from the watchdog's count the timer part of an engine in `Idle` at most consumes the wide timeout (R125). -/
theorem timerState_started_idle {s : State} (i : TickInput) (hp : s.pstate = .idle) (hw : ¬ WatchdogNext s) :
    timerState (started i s) = { started i s with
      dlArmed := if DeadlineNext s then false else s.dlArmed, dlMatched := if DeadlineNext s then false else nextMatched s } := by
  have unwatched : timerState (started i s) = deadlineState (started i s) := if_neg hw
  rw [unwatched, deadlineState_of_due_idle (s := started i s) fun _ => hp]
  by_cases hd : DeadlineNext s
  · rw [if_pos ((started_due i s).2 hd), if_pos hd, if_pos hd]; rfl
  · rw [started_not_due i hd, if_neg hd, if_neg hd]; rfl

/-! ### Measured rising edges -/

/-- In `Idle` the timer part at most consumes the wide timeout and clears the context (R86, R125). -/
theorem timerState_idle_cases {s : State} (h : s.pstate = .idle) :
    ∃ u, (u = s ∨ u = disarm s) ∧ (timerState s = u ∨ timerState s = watchdogHandler u) := by
  rw [timerState, deadlineState_of_due_idle fun _ => h]
  refine ⟨if deadlineDue s then disarm s else s, ?_, ?_⟩
  · cases deadlineDue s
    · exact .inl rfl
    · exact .inr rfl
  · rcases watchdogPart_cases s.cnt (if deadlineDue s then disarm s else s) with ⟨_, e⟩ | ⟨_, e⟩
    · exact .inr e
    · exact .inl e

theorem timerState_idle {s : State} (h : s.pstate = .idle) : (timerState s).pstate = .idle ∧ (timerState s).cnt = s.cnt := by
  obtain ⟨u, rfl | rfl, e | e⟩ := timerState_idle_cases h <;> rw [e]
  · exact ⟨h, rfl⟩
  · exact ⟨rfl, rfl⟩
  · exact ⟨h, rfl⟩
  · exact ⟨rfl, rfl⟩

/-- The engine measures a pulse in this tick: the line rises in `Idle` with `rise_en = 1` (R106, R110). -/
structure Measured (s : State) : Prop where
  idle : s.pstate = .idle
  enabled : s.riseEn = true
  low_before : s.linePrev = false
  high_now : s.lineIn = true

theorem measured_started {s : State} {i : TickInput} (hp : s.pstate = .idle) (hr : s.riseEn = true) (hl : LineRises i s) :
    Measured (started i s) := ⟨hp, hr, hl.1, hl.2⟩

theorem edgePart_measured {s : State} (m : Measured s) : edgePart s = risingEdge s := edgePart_rising m.low_before m.high_now

/-- Neither timer event of the tick ends the measuring (R86, R125). -/
theorem measured_timerState {s : State} (m : Measured s) : Measured (timerState s) :=
  have outside := sameOutside_timer s
  ⟨(timerState_idle m.idle).1, outside.riseEn.trans m.enabled, outside.linePrev.trans m.low_before,
    outside.lineIn.trans m.high_now⟩

theorem risingEdge_rejected {s : State} (m : Measured s) (h : s.cnt < 450 ∨ 510 < s.cnt) : risingEdge s = rejectPulse s := by
  rw [risingEdge, if_pos ⟨m.idle, m.enabled⟩, if_pos ((pulseRejected_iff _).2 h)]

theorem risingEdge_accepted {s : State} (m : Measured s)
    (h : (470 < s.cnt ∧ s.cnt ≤ 510) ∨ (s.params.deadzoneAccept = true ∧ 450 ≤ s.cnt ∧ s.cnt ≤ 470)) :
    risingEdge s = acceptPulse s := by
  rw [risingEdge, if_pos ⟨m.idle, m.enabled⟩, if_neg (by rw [pulseRejected_iff]; omega)]
  rcases h with ⟨h, _⟩ | ⟨hz, _, h⟩
  · rw [if_pos ((pulseAccepted_iff _).2 h)]
  · rw [if_neg (by rw [pulseAccepted_iff]; omega), deadZone, if_pos hz]

theorem risingEdge_deadZone {s : State} (m : Measured s) (hz : s.params.deadzoneAccept = false) (h₁ : 450 ≤ s.cnt)
    (h₂ : s.cnt ≤ 470) : risingEdge s = s := by
  rw [risingEdge, if_pos ⟨m.idle, m.enabled⟩, if_neg (by rw [pulseRejected_iff]; omega), if_neg (by rw [pulseAccepted_iff]; omega),
    deadZone, hz]
  rfl

/-- A tick with a measured pulse whose width calls for `handle`: in either order `handle` is added to the timer part, unless it re-arms
the timer with the edge first (R212). -/
theorem handlersState_measured {s : State} (m : Measured s) {handle : State → State}
    (width : ∀ t, Measured t → t.cnt = s.cnt → t.params = s.params → risingEdge t = handle t) :
    handlersState s = handle (timerState s) ∨
    ((handle (disarm s)).dlArmed = true ∧ handlersState s = handle s) ∨
    ((handle (disarm s)).dlArmed = false ∧ handlersState s = timerState (handle s)) := by
  have edge : ∀ t, Measured t → t.cnt = s.cnt → t.params = s.params → edgePart t = handle t :=
    fun t mt hc hp => (edgePart_measured mt).trans (width t mt hc hp)
  have rearms : edgeRearms s = (handle (disarm s)).dlArmed := by
    rw [edgeRearms, edge (disarm s) ⟨m.idle, m.enabled, m.low_before, m.high_now⟩ rfl rfl]
  rw [← rearms, ← edge s m rfl rfl, ← edge _ (measured_timerState m) (timerState_idle m.idle).2 (sameOutside_timer s).params]
  exact handlersState_cases s

/-- Acceptance overwrites all that a timer event of the tick may have written (R88, R108). -/
theorem acceptPulse_timerState {s : State} (h : s.pstate = .idle) : acceptPulse (timerState s) = acceptPulse s := by
  obtain ⟨u, rfl | rfl, e | e⟩ := timerState_idle_cases h <;> rw [e] <;> rfl

end Sys2Proof.Machine

open Sys2Proof Sys2Proof.Machine

/-- Settles O11: the edge overwrites the arming of a timeout that the timer part may have consumed before it. -/
theorem fallingEdgeInIdle : Obligations.FallingEdgeInIdle := by
  intro s i rest he hp hl hw
  cases order : s.params.simulOrder with
  | timerFirst =>
    rw [step_falling_timerFirst he order hl, timerState_started_idle i hp hw, started_eq he, fallingEdge, hp, hl.2]
    rfl
  | edgeFirst =>
    rw [step_falling_edgeFirst he order hl (by simp [InPresence, hp]), started_eq he, fallingEdge, hp, hl.2]
    rfl

/-- Settles O12: the tick is its falling edge. -/
theorem fallingEdgeInWrite : Obligations.FallingEdgeInWrite := by
  intro s i rest he hp hl hd hw
  rw [step_falling he hl hd hw, started_eq he, fallingEdge, hp, hl.2]
  rfl

/-- Settles O13: the tick is its falling edge, which drives the line by the bit to send. -/
theorem fallingEdgeInRead : Obligations.FallingEdgeInRead := by
  intro s i rest he hp hl hd hw
  rw [step_falling he hl hd hw, started_eq he, fallingEdge, hp, hl.2]
  cases s.readVal <;> rfl

/-- Settles O15: the rejection and the timeout of the tick write different registers. -/
theorem rejectedPulseOnlyDisablesDetection : Obligations.RejectedPulseOnlyDisablesDetection := by
  intro s i rest he hp hr hl hc
  have unwatched : ¬ WatchdogNext s := by rw [WatchdogNext, Config.tWdg]; omega
  have rejected : handlersState (started i s) = rejectPulse (timerState (started i s)) := by
    rcases handlersState_measured (measured_started hp hr hl) (handle := rejectPulse)
      (fun t m count _ => risingEdge_rejected m (count ▸ hc)) with e | ⟨armed, _⟩ | ⟨_, e⟩
    · exact e
    · cases armed
    · rw [e, timerState_started_idle i hp unwatched]
      exact timerState_started_idle (s := rejectPulse s) i hp unwatched
  rw [step_started he, rejected, timerState_started_idle i hp unwatched, started_eq he, hl.2]
  rfl

/-- Settles O16: acceptance overwrites what the timer part may have written before it, and with the edge first it is the whole tick. -/
theorem acceptedPulseStartsPresence : Obligations.AcceptedPulseStartsPresence := by
  intro s i rest he hp hr hl hc
  have accepted : handlersState (started i s) = acceptPulse (started i s) := by
    rcases handlersState_measured (measured_started hp hr hl) (handle := acceptPulse)
      (fun t m count params => risingEdge_accepted m (by rw [count, params]; exact hc)) with e | ⟨_, e⟩ | ⟨unarmed, _⟩
    · exact e.trans (acceptPulse_timerState (s := started i s) hp)
    · exact e
    · cases unarmed
  rw [step_started he, accepted, started_eq he, hl.2]
  rfl

/-- Settles O17: the edge part does nothing, so the tick is its timer part. -/
theorem deadZonePulseHasNoEffect : Obligations.DeadZonePulseHasNoEffect := by
  intro s i rest he hp hr hl hz h₁ h₂
  have unwatched : ¬ WatchdogNext s := by rw [WatchdogNext, Config.tWdg]; omega
  have ignored : handlersState (started i s) = timerState (started i s) := by
    rcases handlersState_measured (measured_started hp hr hl) (handle := id)
      (fun t m count params => risingEdge_deadZone m (params ▸ hz) (count ▸ h₁) (count ▸ h₂)) with e | ⟨armed, _⟩ | ⟨_, e⟩
    · exact e
    · cases armed
    · exact e
  rw [step_started he, ignored, timerState_started_idle i hp unwatched, started_eq he, hl.2]
  rfl
end

section
/-! PROOFS. Many ticks in which everyone else holds the line at one level: the low pulse an engine in `Idle` measures (R106, S2), and the
presence sequence of R111. -/

namespace Sys2Proof.Machine

/-! ### Held ticks -/

/-- The input of each of `heldTicks`. -/
def heldInput (release : Bool) : TickInput := { release := release, alarm := false, reply := AppReply.silent }

theorem heldTicks_succ (release : Bool) (n : Nat) : heldTicks release (n + 1) = .tick (heldInput release) :: heldTicks release n := rfl

/-- A tick takes its event and no other. -/
theorem events_of_step {s t : State} {i : TickInput} {rest : List Event} (he : s.events = .tick i :: rest) (h : step s = .next t) :
    t.events = rest := by
  have timer : ∀ u, (timerState u).events = u.events := fun u => (sameOutside_timer u).events
  have edge : ∀ u, (edgePart u).events = u.events := fun u => by
    obtain ⟨-, -, -, -, -, -, -, hevents, -⟩ := edgePart_frame u
    exact hevents
  have kept : (handlersState (started i s)).events = (started i s).events := by
    rcases handlersState_cases (started i s) with e | ⟨_, e⟩ | ⟨_, e⟩ <;> rw [e]
    · rw [edge, timer]
    · rw [edge]
    · rw [timer, edge]
  obtain rfl := Host.Outcome.next.inj ((step_started he).symm.trans h)
  rw [followLine_events, kept, started_eq he]

/-- What every held tick keeps, counting the ticks, holds after `k` of them; and then `m` more steps. -/
theorem runSteps_held {P : Nat → State → Prop} {release : Bool} {bound : Nat}
    (keeps : ∀ {n : Nat} {s : State} {rest : List Event}, n < bound → P n s → s.events = .tick (heldInput release) :: rest →
      ∃ t, step s = .next t ∧ P (n + 1) t)
    (m k : Nat) : ∀ {n : Nat} {s : State} {rest : List Event}, n + k ≤ bound → P n s → s.events = heldTicks release k ++ rest →
      ∃ t, runSteps (m + k) s = runSteps m t ∧ P (n + k) t ∧ t.events = rest := by
  induction k with
  | zero => intro n s rest _ hs he; exact ⟨s, rfl, hs, he⟩
  | succ k ih =>
    intro n s rest hk hs he
    rw [heldTicks_succ, List.cons_append] at he
    obtain ⟨u, stepped, hu⟩ := keeps (by omega) hs he
    obtain ⟨t, run, ht, events⟩ := ih (by omega) hu (events_of_step he stepped)
    rw [Nat.add_right_comm, Nat.add_assoc] at ht
    exact ⟨t, (runSteps_succ (m + k) stepped).trans run, ht, events⟩

/-! ### A low pulse in `Idle` -/

/-- A low pulse is being measured, `n` ticks after the tick it began in (R101, R105). -/
structure LowPulse (p : Params) (n : Nat) (s : State) : Prop where
  params : s.params = p
  idle : s.pstate = .idle
  enabled : s.riseEn = true
  low : s.linePrev = false
  released : s.driveLow = false
  count : s.cnt = n

section
variable {p : Params} {n : Nat} {s : State} {i : TickInput} {rest : List Event}

/-- The falling edge starts it. -/
theorem lowPulse_fallingEdge (params : s.params = p) (idle : s.pstate = .idle) (low : s.lineIn = false)
    (released : s.driveLow = false) : LowPulse p 0 (followLine (fallingEdge s)) := by
  rw [fallingEdge, idle]
  exact ⟨params, idle, rfl, low, released, rfl⟩

/-- Nor does a timer part before the edge keep it from starting. -/
theorem lowPulse_fallingEdge_timerState (params : s.params = p) (idle : s.pstate = .idle) (low : s.lineIn = false)
    (released : s.driveLow = false) : LowPulse p 0 (followLine (fallingEdge (timerState s))) :=
  have timer := sameOutside_timer s
  lowPulse_fallingEdge (timer.params.trans params) (timerState_idle idle).1 (timer.lineIn.trans low)
    (timerState_released (by simp [InPresence, idle]) released)

/-- The timer part goes on with it, whatever its events (R86, R125). -/
theorem lowPulse_timerState (params : s.params = p) (idle : s.pstate = .idle) (enabled : s.riseEn = true) (low : s.lineIn = false)
    (released : s.driveLow = false) (count : s.cnt = n) : LowPulse p n (followLine (timerState s)) := by
  have timer := sameOutside_timer s
  obtain ⟨stays, counted⟩ := timerState_idle idle
  have released := timerState_released (by simp [InPresence, idle]) released
  rw [followLine]
  exact ⟨timer.params.trans params, stays, timer.riseEn.trans enabled, timer.lineIn.trans low, released, counted.trans count⟩

/-- A falling tick starts a pulse in either order, and with any timer event in it. -/
theorem step_lowPulse (he : s.events = .tick i :: rest) (hp : s.pstate = .idle) (hd : s.driveLow = false) (hl : LineFalls i s) :
    ∃ t, step s = .next t ∧ LowPulse s.params 0 t := by
  have outside : ¬ InPresence s := by simp [InPresence, hp]
  cases order : s.params.simulOrder with
  | timerFirst =>
    refine ⟨_, step_falling_timerFirst he order hl, ?_⟩
    rw [started_eq he]
    exact lowPulse_fallingEdge_timerState rfl hp hl.2 hd
  | edgeFirst =>
    refine ⟨_, step_falling_edgeFirst he order hl outside, ?_⟩
    rw [started_eq he]
    exact lowPulse_fallingEdge rfl hp hl.2 hd

theorem LowPulse.counts (h : LowPulse p n s) (hn : n + 1 < 2 ^ p.cntWidth) : nextCount s = n + 1 := by
  rw [nextCount_eq (by rw [h.count, h.params]; exact hn), h.count]

/-- A low tick counts. -/
theorem LowPulse.step_low (h : LowPulse p n s) (he : s.events = .tick i :: rest) (hi : i.release = false)
    (hn : n + 1 < 2 ^ p.cntWidth) : ∃ t, step s = .next t ∧ LowPulse p (n + 1) t := by
  have low : lineLevel i.release s = false := by rw [lineLevel, hi, Bool.false_and]
  refine ⟨_, step_no_edge he (.inl (low.trans h.low.symm)), ?_⟩
  rw [started_eq he]
  exact lowPulse_timerState h.params h.idle h.enabled low h.released (h.counts hn)

/-- The widths of a reset pulse that is accepted (R108, R109). -/
abbrev AcceptedWidth (p : Params) (w : Nat) : Prop := (470 < w ∧ w ≤ 510) ∨ (p.deadzoneAccept = true ∧ 450 ≤ w ∧ w ≤ 470)

/-- The rising edge decides by the width. -/
theorem LowPulse.step_high (h : LowPulse p n s) (he : s.events = .tick i :: rest) (hi : i.release = true)
    (hn : n + 1 < 2 ^ p.cntWidth) :
    ∃ t, step s = .next t ∧ (AcceptedWidth p (n + 1) → t.pstate = .presenceWait ∧ ContextClear t) ∧
      (¬ AcceptedWidth p (n + 1) → t.pstate = .idle) := by
  have rises : LineRises i s := ⟨h.low, by rw [lineLevel, hi, h.released]; rfl⟩
  rw [← h.counts hn, ← h.params]
  by_cases accepted : AcceptedWidth s.params (nextCount s)
  · exact ⟨_, acceptedPulseStartsPresence s i rest he h.idle h.enabled rises accepted,
      fun _ => ⟨rfl, rfl, rfl, rfl, rfl, rfl, rfl, rfl⟩, absurd accepted⟩
  by_cases rejected : nextCount s < 450 ∨ 510 < nextCount s
  · exact ⟨_, rejectedPulseOnlyDisablesDetection s i rest he h.idle h.enabled rises rejected, fun a => absurd a accepted,
      fun _ => h.idle⟩
  · have refused : s.params.deadzoneAccept = false := by
      rw [← Bool.not_eq_true]
      exact fun hz => accepted (.inr ⟨hz, by omega, by omega⟩)
    exact ⟨_, deadZonePulseHasNoEffect s i rest he h.idle h.enabled rises refused (by omega) (by omega), fun a => absurd a accepted,
      fun _ => h.idle⟩

end

/-! ### The presence sequence -/

/-- `c` ticks after the arming of a deadline of the presence sequence, with no latency. -/
structure Presenting (p : PState) (us c : Nat) (s : State) : Prop where
  params : s.params.Valid
  latency : s.params.deadlineLatency = 0
  pstate : s.pstate = p
  dlArmed : s.dlArmed = true
  cmp : s.cmp = us
  cnt : s.cnt = c

section
variable {p : PState} {us c : Nat} {s : State} {i : TickInput} {rest : List Event} (h : Presenting p us c s)
include h

theorem Presenting.counts (hc : c < 70) : nextCount s = c + 1 := by
  rw [nextCount_of_lt h.params (by rw [h.cnt]; omega), h.cnt]

/-- Before the deadline a tick only counts, whatever the line does (R104, R110). -/
theorem Presenting.step_quiet (he : s.events = .tick i :: rest) (hp : InPresence s) (hc : c + 1 < us) (hus : us ≤ 70) :
    ∃ t, step s = .next t ∧ Presenting p us (c + 1) t ∧ t.driveLow = s.driveLow ∧ t.linePrev = lineLevel i.release s := by
  have count := h.counts (by omega)
  have unmatched : ¬ DeadlineNext s := fun ⟨_, _, hn⟩ => by
    have hpow := Params.Valid.pow_le h.params
    rw [h.cmp, h.latency, Nat.add_zero, Nat.mod_eq_of_lt (by omega)] at hn
    omega
  have unwatched : nextCount s ≠ 500 := by omega
  have quiet : step s = .next (followLine (started i s)) := by
    rw [step_started he, handlersState_no_timer (started_not_due i unmatched) unwatched, edgePart_presence (s := started i s) hp]
  rw [started_eq he] at quiet
  exact ⟨_, quiet, ⟨h.params, h.latency, h.pstate, h.dlArmed, h.cmp, count⟩, rfl, rfl⟩

/-- On a steady line the tick of the deadline is the arm of the engine's state (R123, R124). -/
theorem Presenting.step_due (he : s.events = .tick i :: rest) (hl : LineSteady i s) (hc : c + 1 = us) (hus : us ≤ 70) :
    step s = .next (followLine (armState (disarm (started i s)))) := by
  have count := h.counts (by omega)
  have hpow := Params.Valid.pow_le h.params
  have due : DeadlineNext s := by
    refine ⟨h.dlArmed, (nextMatched_iff s).2 (.inr ⟨h.dlArmed, by rw [count, hc, h.cmp]⟩), ?_⟩
    rw [count, h.cmp, h.latency, Nat.add_zero, Nat.mod_eq_of_lt (by omega)]
    exact hc
  exact step_deadline he due (by rw [WindowNext, count, h.cmp]; omega) (by rw [WatchdogNext, count, Config.tWdg]; omega) (.inl hl)

end

/-- Where the engine stands `n` ticks after an accepted pulse, if nobody else pulls the line (R111). -/
inductive PresenceAt : Nat → State → Prop where
  | waiting {c : Nat} {s : State} (before : c < 30) (at_c : Presenting .presenceWait 30 c s) (released : s.driveLow = false)
      (high : s.linePrev = true) : PresenceAt c s
  | pulsing {c : Nat} {s : State} (before : c < 70) (at_c : Presenting .presencePulse 70 c s) (driven : s.driveLow = true)
      (low : s.linePrev = decide (c = 0)) : PresenceAt (30 + c) s
  | ready {s : State} (state : s.pstate = .write) (released : s.driveLow = false) (low : s.linePrev = false) : PresenceAt 100 s

theorem armState_presenceWait {s : State} (h : s.pstate = .presenceWait) :
    armState s = scheduleAfter Config.tPpulse { driveLine s with pstate := .presencePulse } := by rw [armState, h]

theorem armState_presencePulse {s : State} (h : s.pstate = .presencePulse) :
    armState s = { releaseLine s with pstate := .write } := by rw [armState, h]

/-- Every tick leads on to the next instant: the engine only counts, or it is at one of its two deadlines. -/
theorem PresenceAt.step {n : Nat} {s : State} {rest : List Event} (hn : n < 100) (h : PresenceAt n s)
    (he : s.events = .tick (heldInput true) :: rest) : ∃ t, step s = .next t ∧ PresenceAt (n + 1) t := by
  have level : lineLevel (heldInput true).release s = !s.driveLow := Bool.true_and _
  cases h with
  | waiting before at_c released high =>
    have stays : lineLevel (heldInput true).release s = true := by rw [level, released]; rfl
    by_cases last : n + 1 = 30
    · refine ⟨_, at_c.step_due he (stays.trans high.symm) last (by omega), ?_⟩
      rw [last, started_eq he, armState_presenceWait]
      · exact .pulsing (c := 0) (by omega) ⟨at_c.params, at_c.latency, rfl, rfl, rfl, rfl⟩ rfl stays
      · exact at_c.pstate
    · obtain ⟨t, stepped, next, drive, follows⟩ := at_c.step_quiet he (.inl at_c.pstate) (by omega) (by omega)
      exact ⟨t, stepped, .waiting (by omega) next (drive.trans released) (follows.trans stays)⟩
  | @pulsing c _ before at_c driven low =>
    have stays : lineLevel (heldInput true).release s = false := by rw [level, driven]; rfl
    by_cases last : c + 1 = 70
    · refine ⟨_, at_c.step_due he (stays.trans (by simp [low, show c ≠ 0 by omega])) last (by omega), ?_⟩
      rw [Nat.add_assoc, last, started_eq he, armState_presencePulse]
      · exact .ready rfl rfl stays
      · exact at_c.pstate
    · obtain ⟨t, stepped, next, drive, follows⟩ := at_c.step_quiet he (.inr at_c.pstate) (by omega) (by omega)
      exact ⟨t, stepped, .pulsing (by omega) next (drive.trans driven) (follows.trans stays)⟩
  | ready => omega

end Sys2Proof.Machine

open Sys2Proof Sys2Proof.Machine

/-- Settles O54: the first low tick starts the measuring, the others count, and the high tick decides by the count. -/
theorem resetPulseWidthDecides : Obligations.ResetPulseWidthDecides := by
  intro s w rest _ hp high released hw fits he
  obtain ⟨n, rfl⟩ : ∃ n, w = n + 1 := ⟨w - 1, by omega⟩
  have falls : LineFalls (heldInput false) s := ⟨high, rfl⟩
  rw [heldTicks_succ, List.cons_append, List.cons_append, List.append_assoc] at he
  obtain ⟨s₀, stepped, start⟩ := step_lowPulse he hp released falls
  obtain ⟨s₁, run, pulse, events⟩ := runSteps_held (release := false) (bound := n)
    (fun hn h he => LowPulse.step_low h he rfl (by omega)) 1 n (by omega) start (events_of_step he stepped)
  rw [Nat.zero_add] at pulse
  obtain ⟨t, decided, result⟩ := pulse.step_high events rfl fits
  refine ⟨t, ?_, result⟩
  rw [runSteps_succ _ stepped, Nat.add_comm, run, runSteps_succ 0 decided, runSteps_zero]

/-- Settles O55: the ticks count, up to the two deadlines of the presence sequence. -/
theorem presenceTimeline : Obligations.PresenceTimeline := by
  intro s n rest valid latency hp hc hcmp ha released high hn he
  have start : PresenceAt 0 s := .waiting (by omega) ⟨valid, latency, hp, ha, hcmp, hc⟩ released high
  obtain ⟨t, run, presence, -⟩ := runSteps_held PresenceAt.step 0 n (by omega) start he
  rw [Nat.zero_add] at run presence
  refine ⟨t, run, ?_⟩
  cases presence with
  | waiting before at_n released high =>
    exact ⟨by rw [at_n.pstate, if_pos before], released.trans (decide_eq_false (by omega)).symm,
      high.trans (decide_eq_true (by omega)).symm⟩
  | pulsing before at_c driven low =>
    exact ⟨by rw [at_c.pstate, if_neg (by omega), if_pos (by omega)], driven.trans (decide_eq_true (by omega)).symm,
      low.trans (decide_eq_decide.2 (by omega))⟩
  | ready state released low => simp [state, released, low]
end

section
/-! PROOFS. The line in a slot of the master, tick by tick (R74, R76, R222). -/

namespace Sys2Proof.Machine

/-! ### Waveforms and runs -/

/-- An event has a next state (R200). -/
theorem step_next (s : State) : ∃ t, step s = .next t := by
  unfold step
  cases nextEvent s with
  | tick i => exact ⟨_, tickWith_eq i _⟩
  | rst => exact ⟨_, rfl⟩

theorem waveform_succ (n : Nat) {s t : State} (h : step s = .next t) : waveform (n + 1) s = t.lineIn :: waveform n t := by
  rw [waveform, h]

/-- The waveform goes on from the state the first `m` steps lead to. -/
theorem waveform_add (n : Nat) {m : Nat} {s t : State} (h : runSteps m s = .next t) :
    waveform (m + n) s = waveform m s ++ waveform n t := by
  induction m generalizing s with
  | zero =>
    obtain rfl := Host.Outcome.next.inj h
    rw [Nat.zero_add]
    rfl
  | succ m ih =>
    obtain ⟨u, stepped⟩ := step_next s
    rw [runSteps_succ m stepped] at h
    rw [Nat.add_right_comm, waveform_succ _ stepped, waveform_succ _ stepped, ih h, List.cons_append]

/-- The last level of a waveform is the one its last state has sampled. -/
theorem waveform_last {n : Nat} {s t : State} (h : runSteps (n + 1) s = .next t) :
    waveform (n + 1) s = waveform n s ++ [t.lineIn] := by
  induction n generalizing s with
  | zero =>
    obtain ⟨u, stepped⟩ := step_next s
    rw [runSteps_succ 0 stepped] at h
    obtain rfl := Host.Outcome.next.inj h
    exact waveform_succ 0 stepped
  | succ n ih =>
    obtain ⟨u, stepped⟩ := step_next s
    rw [runSteps_succ _ stepped] at h
    rw [waveform_succ _ stepped, ih h, waveform_succ _ stepped, List.cons_append]

/-- While the engine only counts, the line is what the others and the engine's unchanging output make of it. -/
theorem waveform_counted (n : Nat) : ∀ {s : State} {inputs : List TickInput} {rest : List Event},
    OnlyCounts n s → s.events = inputs.map Event.tick ++ rest → n ≤ inputs.length →
    NeverFalls s.linePrev (((inputs.map fun i => i.release).take n).map fun r => lineLevel r s) →
    waveform n s = ((inputs.map fun i => i.release).take n).map fun r => lineLevel r s := by
  induction n with
  | zero => intros; rfl
  | succ n ih =>
    intro s inputs rest h he hlen hl
    cases inputs with
    | nil => cases hlen
    | cons i inputs =>
      obtain ⟨later, now⟩ := NeverFalls.noEdgeActs (i := i) h.riseEn hl
      rw [waveform_succ n (step_counted (rest := inputs.map Event.tick ++ rest) h he now),
        ih (inputs := inputs) (h.counted i _) rfl (Nat.le_of_succ_le_succ hlen) later]
      rfl

/-- The same to the end of `inputs`, where the engine does not pull the line. -/
theorem waveform_released {s : State} {inputs : List TickInput} {rest : List Event} (h : OnlyCounts inputs.length s)
    (hd : s.driveLow = false) (he : s.events = inputs.map Event.tick ++ rest)
    (hl : NeverFalls s.linePrev (inputs.map fun i => i.release)) : waveform inputs.length s = inputs.map fun i => i.release := by
  have released : ∀ r, lineLevel r s = r := fun r => by rw [lineLevel, hd]; exact Bool.and_true r
  have levels : ((inputs.map fun i => i.release).take inputs.length).map (fun r => lineLevel r s) =
      inputs.map fun i => i.release := by
    rw [funext released, List.map_id', List.take_of_length_le (Nat.le_of_eq (List.length_map _))]
  exact (waveform_counted _ h he (Nat.le_refl _) (levels.symm ▸ hl)).trans levels

/-! ### A whole slot -/

section
variable {s : State} {inputs : List TickInput} {rest : List Event} {t : Nat} {level : Bool} (h : SlotAhead s)
  (ht : armedValue s = t + 2) (hl : SlotLevels (inputs.map fun i => i.release) t (slotPull s) level)
  (he : s.events = inputs.map Event.tick ++ rest)
include h ht hl he

/-- Up to the tick before the deadline the engine's pull is added to the master's levels. -/
theorem waveform_before_sample :
    waveform (t + 2) s = false :: ((inputs.map fun i => i.release).drop 1 |>.take (t + 1)).map fun r => r && !slotPull s := by
  obtain ⟨hlen, hstart, hbefore, -, -, -, -⟩ := hl
  cases inputs with
  | nil => cases hlen
  | cons i inputs =>
    have low : i.release = false := Option.some.inj hstart
    have hle := h.armedValue_le
    have hcount : t + 1 ≤ inputs.length := by
      rw [List.length_map, List.length_cons] at hlen
      omega
    rw [waveform_succ (t + 1) (step_slotStarted (rest := inputs.map Event.tick ++ rest) h he low),
      waveform_counted (t + 1) (inputs := inputs) (onlyCounts_slotStarted h ht) rfl hcount hbefore]
    rfl

/-- The line in a slot: the engine's pull is in force from the tick after the fall to that of the deadline. -/
theorem waveform_slot :
    waveform 70 s =
      (false :: ((inputs.map fun i => i.release).drop 1 |>.take (t + 1)).map fun r => r && !slotPull s) ++ [level] ++
        (inputs.map fun i => i.release).drop (t + 3) := by
  have hle := h.armedValue_le
  have hlen : inputs.length = 70 := by rw [← List.length_map (f := fun i => i.release), hl.length]
  have sampled := runSteps_sampled 0 h ht hl (List.getElem?_eq_getElem (by omega)) he
  rw [Nat.zero_add] at sampled
  have around := sameAround_armState_sample (i := inputs[t + 2]) (level := level) h
  have sampledLevel : (armState (atSample inputs[t + 2] level s)).lineIn = level := around.lineIn
  have counts : OnlyCounts (inputs.drop (t + 3)).length (onSchedule ((inputs.drop (t + 3)).map Event.tick ++ rest) (s.steps + (t + 3))
      (armState (atSample inputs[t + 2] level s))) := onlyCounts_sampled h (by rw [List.length_drop]; omega)
  have after := waveform_released counts around.driveLow rfl
    (by rw [onSchedule, around.linePrev, List.map_drop]; exact hl.after)
  have length : 70 = t + 3 + (inputs.drop (t + 3)).length := by rw [List.length_drop]; omega
  rw [length, waveform_add _ sampled, waveform_last sampled, waveform_before_sample h ht hl he, after, onSchedule, sampledLevel,
    List.map_drop]

end

end Sys2Proof.Machine

open Sys2Proof Sys2Proof.Machine

/-- Settles O59: the two waveforms are that of a slot with the engine's pull and that of one without. -/
theorem readSlotWaveform : Obligations.ReadSlotWaveform := by
  intro s inputs rest h latency hp hprev undriven ha hc levels he
  have ahead : SlotAhead s := ⟨h, latency, .inr hp, hprev, undriven, ha, hc⟩
  have value : armedValue s = 50 := by rw [armedValue, hp]
  have pull : slotPull s = !s.readVal := by rw [slotPull, hp]; rfl
  have line : SlotLevels (inputs.map fun i => i.release) 48 (slotPull s) s.readVal := by
    rw [levels, pull]; exact slotLevels_readSlot s.readVal
  rw [waveform_slot ahead value line he, levels, pull]
  cases s.readVal <;> decide
end

section
/-! PROOFS. The transitions of `pstate` (R120 to R129): the two deadlines of the presence sequence, and the table of R129. -/

namespace Sys2Proof.Machine

/-! ### The presence sequence -/

/-- A tick whose timer part starts and ends in presence is that part, whatever the line does, in either order (R104, R110, R212). -/
theorem handlersState_presence {s : State} (before : InPresence s) (after : InPresence (timerState s)) :
    handlersState s = timerState s := by
  rcases handlersState_cases s with e | ⟨rearms, _⟩ | ⟨_, e⟩
  · rw [e, edgePart_presence after]
  · simp [edgeRearms_presence before] at rearms
  · rw [e, edgePart_presence before]

/-! ### The table of R129 -/

/-- One tick leads from `p` to `q` by a transition of the table, or by none. -/
abbrev Moves (p q : PState) : Prop := (p, q) ∈ pstateMoves

theorem moves_refl (p : PState) : Moves p p := by cases p <;> decide

/-- Between the states outside presence the table leaves out only the way from `Idle` into a slot. -/
theorem moves_of_not_presence {s t : State} (hs : ¬ InPresence s) (ht : ¬ InPresence t)
    (idle : s.pstate = .idle → t.pstate = .idle) : Moves s.pstate t.pstate := by
  rcases (not_presence_iff s).1 hs with hp | hp | hp
  · rw [hp, idle hp]; decide
  · rcases (not_presence_iff t).1 ht with hq | hq | hq <;> rw [hp, hq] <;> decide
  · rcases (not_presence_iff t).1 ht with hq | hq | hq <;> rw [hp, hq] <;> decide

/-- A deadline makes the transitions of its state's arm (R120 to R125). -/
theorem moves_deadlineState {s : State} (h : Phase s) : Moves s.pstate (deadlineState s).pstate := by
  rcases deadlineState_cases s with e | e | ⟨hp, e⟩ | ⟨hp, e⟩ | ⟨hp, e⟩ <;> rw [e]
  · exact moves_refl _
  · exact moves_refl _
  · have notIdle : s.pstate ≠ .idle := by rcases hp with hp | hp <;> simp [hp]
    have outside : ¬ InPresence s := by rcases hp with hp | hp <;> simp [InPresence, hp]
    have slot : SlotPhase (releaseLine (disarm s)) := (h.slot outside).congr rfl
    exact moves_of_not_presence outside (slotPhase_process slot notIdle).not_presence fun hi => absurd hi notIdle
  · rw [hp]; exact show Moves .presencePulse .write by decide
  · rw [hp]; exact show Moves .presenceWait .presencePulse by decide

/-- On the watchdog's count no deadline of the presence sequence can be pending (R211). -/
theorem not_presence_of_watchdog {s : State} (b : InvBase s) (r : DeadlineReached s) (hc : s.cnt = 500) : ¬ InPresence s := by
  intro hp
  have armed := b.presence_armed hp
  have notIdle : s.pstate ≠ .idle := by rcases hp with hp | hp <;> simp [hp]
  have reached := (r.armed_reached armed notIdle).1
  have near := b.deadline_le armed notIdle
  omega

/-- The watchdog adds the ways back to `Idle` from outside presence (R86). -/
theorem moves_timerState {s : State} (b : InvBase s) (r : DeadlineReached s) : Moves s.pstate (timerState s).pstate := by
  unfold timerState
  rcases watchdogPart_cases s.cnt (deadlineState s) with ⟨hc, e⟩ | ⟨_, e⟩ <;> rw [e]
  · exact moves_of_not_presence (not_presence_of_watchdog b r hc) (by simp [InPresence]) fun _ => rfl
  · exact moves_deadlineState b.phase

/-- The edge part leaves `pstate` as it is, but for an accepted reset pulse, which takes `rise_en = 1` (R101 to R110). -/
theorem edgePart_pstate (s : State) :
    (edgePart s).pstate = s.pstate ∨ (s.riseEn = true ∧ (edgePart s).pstate = .presenceWait) := by
  rcases edgePart_cases s with ⟨_, e⟩ | ⟨_, _, e⟩ | ⟨_, _, e⟩ <;> rw [e]
  · exact .inl rfl
  · rcases fallingEdge_cases s with ⟨_, f⟩ | ⟨_, f⟩ | ⟨_, f⟩ | ⟨_, f⟩ <;> rw [f] <;> exact .inl rfl
  · rcases risingEdge_cases s with f | ⟨_, _, _, f⟩ | ⟨_, enabled, _, f⟩ <;> rw [f]
    · exact .inl rfl
    · exact .inl rfl
    · exact .inr ⟨enabled, rfl⟩

/-- So an edge handler that does not re-arm the timer leaves it as it is. -/
theorem edgePart_pstate_of_not_rearms {s : State} (h : edgeRearms s = false) : (edgePart s).pstate = s.pstate := by
  rcases edgePart_rearms_cases s with ⟨_, e | e⟩ | ⟨rearms, _⟩
  · rw [e]
  · rw [e]; rfl
  · simp [h] at rearms

/-- After a part `t` of the tick that makes a move and leaves `rise_en`, the edge part makes no second one: an acceptance starts from
`Idle` already before the tick. -/
theorem moves_edgePart {s t : State} (b : InvBase s) (kept : t.riseEn = s.riseEn) (h : Moves s.pstate t.pstate) :
    Moves s.pstate (edgePart t).pstate := by
  rcases edgePart_pstate t with e | ⟨enabled, e⟩ <;> rw [e]
  · exact h
  · rw [b.rise_idle (kept ▸ enabled)]; decide

/-- The two parts of a tick, in either order, together make one move at most (R129, R212). -/
theorem moves_handlersState {s : State} (b : InvBase s) (r : DeadlineReached s) : Moves s.pstate (handlersState s).pstate := by
  rcases handlersState_cases s with e | ⟨_, e⟩ | ⟨unarmed, e⟩ <;> rw [e]
  · exact moves_edgePart b (sameOutside_timer s).riseEn (moves_timerState b r)
  · exact moves_edgePart b rfl (moves_refl _)
  · obtain ⟨base, reached, -⟩ := edgePart_of_not_rearms b unarmed
    rw [← edgePart_pstate_of_not_rearms unarmed]
    exact moves_timerState base (reached r)

end Sys2Proof.Machine

open Sys2Proof Sys2Proof.Machine

/-- Settles O19: the deadline's arm leads from presence to presence, where every edge of the tick is ignored. -/
theorem presencePulseStarts : Obligations.PresencePulseStarts := by
  intro s i rest he hp hd hin hw
  have timer : timerState (started i s) =
      scheduleAfter Config.tPpulse { driveLine (disarm (started i s)) with pstate := .presencePulse } := by
    rw [timerState_due ((started_due i s).2 hd) ((started_inWindow i s).2 hin) hw,
      armState_presenceWait (s := disarm (started i s)) hp]
  have pulsing : InPresence (timerState (started i s)) := by rw [timer]; exact .inr rfl
  rw [step_started he, handlersState_presence (s := started i s) (.inl hp) pulsing, timer, started_eq he]
  rfl

/-- Settles O20: the tick is the deadline's arm in `PresencePulse`. -/
theorem presencePulseEnds : Obligations.PresencePulseEnds := by
  intro s i rest he hp hd hin hw hl
  rw [step_deadline he hd hin hw hl, armState_presencePulse (s := disarm (started i s)) hp, started_eq he]
  rfl

/-- Settles O53: the handlers of the tick start from a state in which a deadline may have been reached, and make one move at most. -/
theorem pstateMovesOnlyAsTabled : Obligations.PstateMovesOnlyAsTabled := by
  intro s t i rest h he ht
  obtain rfl := Host.Outcome.next.inj ((step_started he).symm.trans ht)
  exact moves_handlersState (h.toBase.started i) (h.started_reached i)
end

section
/-! PROOFS. What one command does in one slot (R142, R150 to R170): its first step at the latch, one later bit of it, and its frame. -/

namespace Sys2Proof.Machine

/-! ### The two ways a command acts (R142, R127) -/

/-- A command's first step, at the latch (R142). -/
def firstStep (i : Instr) (s : State) : State :=
  match i with
  | .matchRom => latch s
  | .searchRom | .readRom => loadRead (latch s)
  | .skipRom => select (latch s)
  | .alarmSearch => if s.alarmCondition then loadRead (latch s) else deselect (latch s)
  | .unknown _ => deselect (latch s)

/-- A command's later bits (R127). -/
def laterBit (i : Instr) (s : State) : State :=
  match i with
  | .matchRom => matchBit s
  | .searchRom | .alarmSearch => searchBit s
  | .readRom => readRomBit s
  | .skipRom | .unknown _ => deselect s

theorem execState_first (i : Instr) {s : State} (h : s.romCommand = 0#8) : execState i s = firstStep i s := by
  cases i <;> simp [execState, firstStep, noCommandYet, h]

theorem execState_later (i : Instr) {s : State} (h : s.romCommand ≠ 0#8) : execState i s = laterBit i s := by
  cases i <;> simp [execState, laterBit, noCommandYet, h]

theorem exec_first (i : Instr) {s : State} (h : s.romCommand = 0#8) : exec i s = .next (firstStep i s) := by
  rw [exec_eq, execState_first i h]

theorem exec_later (i : Instr) {s : State} (h : s.romCommand ≠ 0#8) : exec i s = .next (laterBit i s) := by
  rw [exec_eq, execState_later i h]

theorem exec_search {i : Instr} (hi : i = .searchRom ∨ i = .alarmSearch) {s : State} (h : s.romCommand ≠ 0#8) :
    exec i s = .next (searchBit s) := by
  rcases hi with rfl | rfl <;> exact exec_later _ h

/-! ### The cursor -/

/-- The last bit is wire bit 63 (R44, R143). -/
theorem lastBit_iff_wirePosition (s : State) : lastBit s = true ↔ wirePosition s = 63 := by
  rw [lastBit_iff, wirePosition]
  constructor
  · rintro ⟨hi, hk⟩
    simp [hi, hk]
  · intro h
    constructor <;> bv_omega

theorem not_lastBit_of_lt {s : State} (h : wirePosition s < 63) : lastBit s = false := by
  rw [← Bool.not_eq_true, lastBit_iff_wirePosition]
  omega

/-- `Advance()` in one equation: three bits of `bit_count` wrap at the byte's end (R145). -/
theorem advance_eq (s : State) :
    advance s = { s with bitCount := s.bitCount + 1#3, idIndex := if s.bitCount = 7#3 then s.idIndex - 1#3 else s.idIndex } := by
  rcases advance_cases s with ⟨hk, e⟩ | ⟨hk, e⟩ <;> rw [e] <;> simp [hk]

@[simp] theorem advance_id (s : State) : (advance s).id = s.id := (sameAround_advance s).id

/-- Away from the last bit `Advance()` brings the next wire bit under the cursor (R44, R145). -/
theorem idBit_advance {s : State} (h : lastBit s = false) : idBit (advance s) = idWireBit s.id (wirePosition s + 1) := by
  rw [idBit_eq_idWireBit, advance_id, wirePosition_advance h]

/-! ### One later bit of each command -/

section
variable {s : State}

theorem handedBit_write (hp : s.pstate = .write) : handedBit s = s.lineIn := by rw [handedBit, hp]

theorem matchBit_mismatch (hp : s.pstate = .write) (h : s.lineIn ≠ idBit s) : matchBit s = deselect s := by
  rw [← handedBit_write hp] at h
  rcases matchBit_cases s with ⟨_, e⟩ | ⟨_, hb, _⟩
  · exact e
  · exact absurd hb h

theorem matchBit_match (hp : s.pstate = .write) (h : s.lineIn = idBit s) :
    matchBit s = if lastBit s then select (firstBit s) else advance s := by
  rw [← handedBit_write hp] at h
  rcases matchBit_cases s with ⟨hn, _⟩ | ⟨_, _, ⟨hl, e⟩ | ⟨hl, e⟩⟩
  · exact absurd hn (by simp [hp, h])
  · rw [e, hl, if_pos rfl]
  · rw [e, hl, if_neg Bool.false_ne_true]

theorem searchBit_write (hp : s.pstate = .write) : searchBit s = searchDirection s := if_pos hp

theorem searchDirection_mismatch (hp : s.pstate = .write) (h : s.lineIn ≠ s.readVal) : searchDirection s = deselect s :=
  if_pos (by rwa [handedBit_write hp])

theorem searchDirection_match (hp : s.pstate = .write) (h : s.lineIn = s.readVal) :
    searchDirection s = if lastBit s then select (firstBit s) else loadRead (advance s) :=
  if_neg (by rw [handedBit_write hp]; exact not_not_intro h)

/-- A half-slot of a search: `read_val` is complemented, and `pstate` turns to `Write` when that is the second one (R156). -/
theorem searchBit_read (hp : s.pstate = .read) :
    searchBit s = { s with readVal := !s.readVal, pstate := if s.readVal = idBit s then .read else .write } := by
  rcases searchBit_cases s with ⟨hw, _⟩ | ⟨_, ⟨hb, e⟩ | ⟨hb, e⟩⟩
  · cases hp.symm.trans hw
  · have h : s.readVal ≠ idBit s := by rw [← hb]; simp
    rw [e, if_neg h]
  · have h : s.readVal = idBit s := by simpa using hb
    rw [e, if_pos h, ← hp]

theorem readRomBit_read (hp : s.pstate = .read) :
    readRomBit s = if lastBit s then { select (firstBit s) with pstate := .write }
      else { advance s with readVal := idBit (advance s) } :=
  if_neg (not_not_intro hp)

end

/-! ### What a command writes of the context -/

/-- The context after a command, as far as R141 and R146 bind it: the byte is kept, the command is kept or latched, and what belongs
to a selection is written by a selection only. -/
structure CommandWrites (s t : State) : Prop where
  byte : t.currentByte = s.currentByte
  command : t.romCommand = s.romCommand ∨ (s.romCommand = 0#8 ∧ t.romCommand = s.currentByte)
  selection : (t.romMatched = s.romMatched ∧ t.txByte = s.txByte ∧ t.call = s.call) ∨
    (t.romMatched = true ∧ t.txByte = s.reply.staged.getD s.txByte ∧ t.call = some .onSelected)

theorem commandWrites_firstStep (i : Instr) {s : State} (h : s.romCommand = 0#8) : CommandWrites s (firstStep i s) := by
  cases i <;> simp only [firstStep]
  case skipRom => exact ⟨rfl, .inr ⟨h, rfl⟩, .inr ⟨rfl, rfl, rfl⟩⟩
  case alarmSearch => split <;> exact ⟨rfl, .inr ⟨h, rfl⟩, .inl ⟨rfl, rfl, rfl⟩⟩
  all_goals exact ⟨rfl, .inr ⟨h, rfl⟩, .inl ⟨rfl, rfl, rfl⟩⟩

section
variable (s : State)

theorem commandWrites_deselect : CommandWrites s (deselect s) := ⟨rfl, .inl rfl, .inl ⟨rfl, rfl, rfl⟩⟩

theorem commandWrites_select : CommandWrites s (select (firstBit s)) := ⟨rfl, .inl rfl, .inr ⟨rfl, rfl, rfl⟩⟩

theorem commandWrites_advance : CommandWrites s (advance s) := by
  rw [advance_eq]
  exact ⟨rfl, .inl rfl, .inl ⟨rfl, rfl, rfl⟩⟩

/-- `read_val` and `pstate` are no part of it. -/
theorem CommandWrites.driving {s t : State} (h : CommandWrites s t) (v : Bool) (p : PState) :
    CommandWrites s { t with readVal := v, pstate := p } := ⟨h.byte, h.command, h.selection⟩

theorem commandWrites_matchBit : CommandWrites s (matchBit s) := by
  rcases matchBit_cases s with ⟨_, e⟩ | ⟨_, _, ⟨_, e⟩ | ⟨_, e⟩⟩ <;> rw [e]
  · exact commandWrites_deselect s
  · exact commandWrites_select s
  · exact commandWrites_advance s

theorem commandWrites_searchBit : CommandWrites s (searchBit s) := by
  have unchanged : CommandWrites s s := ⟨rfl, .inl rfl, .inl ⟨rfl, rfl, rfl⟩⟩
  rcases searchBit_cases s with ⟨_, ⟨_, e⟩ | ⟨_, _, e⟩ | ⟨_, _, e⟩⟩ | ⟨_, ⟨_, e⟩ | ⟨_, e⟩⟩ <;> rw [e]
  · exact commandWrites_deselect s
  · exact commandWrites_select s
  · exact (commandWrites_advance s).driving _ _
  · exact unchanged.driving _ _
  · exact unchanged.driving _ _

theorem commandWrites_readRomBit : CommandWrites s (readRomBit s) := by
  rcases readRomBit_cases s with ⟨_, e⟩ | ⟨_, ⟨_, e⟩ | ⟨_, e⟩⟩ <;> rw [e]
  · exact commandWrites_deselect s
  · exact (commandWrites_select s).driving _ _
  · exact (commandWrites_advance s).driving _ _

theorem commandWrites_laterBit (i : Instr) : CommandWrites s (laterBit i s) := by
  cases i with
  | matchRom => exact commandWrites_matchBit s
  | searchRom | alarmSearch => exact commandWrites_searchBit s
  | readRom => exact commandWrites_readRomBit s
  | skipRom | unknown => exact commandWrites_deselect s

end

theorem commandWrites_execState (i : Instr) (s : State) : CommandWrites s (execState i s) := by
  by_cases h : s.romCommand = 0#8
  · rw [execState_first i h]
    exact commandWrites_firstStep i h
  · rw [execState_later i h]
    exact commandWrites_laterBit s i

end Sys2Proof.Machine

open Sys2Proof Sys2Proof.Machine

/-- Settles O30: the first step of Skip ROM is the selection. -/
theorem skipRomSelectsAtTheLatch : Obligations.SkipRomSelectsAtTheLatch := fun _ h => exec_first .skipRom h

/-- Settles O31: the first step of Match ROM is the latch alone. -/
theorem matchRomWaitsAtTheLatch : Obligations.MatchRomWaitsAtTheLatch := fun _ h => exec_first .matchRom h

/-- Settles O32: the latch puts the cursor at bit 0 of `id[7]`, which is then loaded. -/
theorem searchAndReadRomLoadTheFirstBit : Obligations.SearchAndReadRomLoadTheFirstBit := by
  rintro s i (rfl | rfl) h
  · exact exec_first .searchRom h
  · exact exec_first .readRom h

/-- Settles O33: the gate is in the first step of Alarm Search. -/
theorem alarmSearchIsGatedAtTheLatch : Obligations.AlarmSearchIsGatedAtTheLatch := by
  intro s h
  rw [exec_first .alarmSearch h, firstStep]
  constructor <;> intro flag
  · rw [if_pos flag]
    rfl
  · rw [if_neg (by simp [flag])]
    rfl

/-- Settles O34: the first step of an unknown command deselects. -/
theorem unknownCommandDeselects : Obligations.UnknownCommandDeselects := fun _ v h => exec_first (.unknown v) h

/-- Settles O35: the bit under the cursor is the wire bit, and after a match Match ROM selects or advances. -/
theorem matchRomComparesOneBit : Obligations.MatchRomComparesOneBit := by
  intro s hc hp
  rw [exec_later .matchRom hc, laterBit, ← idBit_eq_idWireBit]
  refine ⟨fun h => ?_, fun h => ?_⟩
  · rw [matchBit_mismatch hp h]
    rfl
  rw [matchBit_match hp h]
  refine ⟨fun hk => ?_, fun hk hi => ?_, fun hk hi => ?_⟩
  · simp [lastBit, advance_eq, hk]
  · simp [lastBit, advance_eq, hk, hi]
  · rw [if_pos ((lastBit_iff s).2 ⟨hi, hk⟩)]
    rfl

/-- Settles O36: after a match of the direction a search selects, or loads the wire bit it advances to. -/
theorem searchComparesTheDirection : Obligations.SearchComparesTheDirection := by
  intro s i hi hc hp
  rw [exec_search hi hc, searchBit_write hp]
  refine ⟨fun h => ?_, fun h hl => ?_, fun h hl => ?_⟩
  · rw [searchDirection_mismatch hp h]
    rfl
  · rw [searchDirection_match hp h, if_pos ((lastBit_iff_wirePosition s).2 hl)]
    rfl
  · have more := not_lastBit_of_lt hl
    rw [searchDirection_match hp h, more, ← idBit_advance more, advance_eq]
    rfl

/-- Settles O37: the complement is the identity bit exactly if `read_val` is not. -/
theorem searchHalfSlotComplements : Obligations.SearchHalfSlotComplements := by
  intro s i hi hc hp
  rw [exec_search hi hc, searchBit_read hp, ← idBit_eq_idWireBit]
  refine ⟨fun h => ?_, fun h => ?_⟩
  · rw [if_pos h, ← hp]
  · rw [if_neg h]

/-- Settles O39: Read ROM selects at the last bit, and loads the wire bit it advances to before it. -/
theorem readRomSendsOneBit : Obligations.ReadRomSendsOneBit := by
  intro s hc hp
  rw [exec_later .readRom hc, laterBit, readRomBit_read hp]
  refine ⟨fun hl => ?_, fun hl => ?_⟩
  · rw [if_pos ((lastBit_iff_wirePosition s).2 hl)]
    rfl
  · have more := not_lastBit_of_lt hl
    rw [more, ← idBit_advance more, advance_eq]
    rfl

/-- Settles O40: each of these arms of the dispatcher is `deselect`. -/
theorem unreachableCombinationsDeselect : Obligations.UnreachableCombinationsDeselect := by
  refine ⟨fun s hc => ⟨exec_later .skipRom hc, fun v => exec_later (.unknown v) hc, fun hp => ?_, fun hp => ?_⟩,
    fun s hc hm hp => ?_⟩
  · rw [exec_later .matchRom hc, laterBit, matchBit, if_pos hp]
    rfl
  · rw [exec_later .readRom hc, laterBit, readRomBit, if_pos hp]
    rfl
  · have notWrite : (releaseLine s).pstate ≠ .write := by simp [hp]
    rw [deadlineArm_eq, armState_slot (.inr hp), processState_command (s := releaseLine s) hm hc, receiveState, if_pos notWrite]
    rfl

/-- Settles O41: the part around the context is kept as a whole, and `CommandWrites` says what the context can become. -/
theorem commandsKeepEverythingElse : Obligations.CommandsKeepEverythingElse := by
  intro i s t h
  obtain rfl := Host.Outcome.next.inj ((exec_eq i s).symm.trans h)
  obtain ⟨byte, command, selection⟩ := commandWrites_execState i s
  obtain ⟨cnt, cmp, dlArmed, riseEn, linePrev, driveLow, id, lineIn, alarm, reply, params, dlMatched, events, steps⟩ :=
    sameAround_exec i s
  exact ⟨byte, cnt, cmp, dlArmed, dlMatched, riseEn, linePrev, driveLow, lineIn, alarm, reply, params, events, steps,
    fun j k => by rw [id], command, selection⟩
end

section
/-! PROOFS. Commands over many slots (R140, R150 to R165): the byte of the command, and the 64 bits of the identity. -/

namespace Sys2Proof.Machine

/-! ### One slot -/

/-- The state a slot's deadline hands to the dispatcher: the slot's level is on the line, and the line is released (R121, R122). -/
def sampled (level : Bool) (s : State) : State := { s with lineIn := level, driveLow := false }

/-- A slot of an engine in `Write` or `Read` dispatches its bit (R121, R122). -/
theorem slotDeadlines_slot {s : State} (hp : InSlot s.pstate) (b : Bool) (bs : List Bool) :
    slotDeadlines (b :: bs) s = slotDeadlines bs (processState (sampled b s)) := by
  rw [slotDeadlines_cons, armState_slot (s := { s with lineIn := b }) hp]
  rfl

/-- A slot finds nothing to do in `Idle` (R125), so that a deselected engine stays so. -/
theorem slotDeadlines_idle (bits : List Bool) : ∀ {s : State}, s.pstate = .idle →
    ∃ t, slotDeadlines bits s = .next t ∧ t.romMatched = s.romMatched ∧ t.pstate = .idle := by
  induction bits with
  | nil => exact fun hp => ⟨_, rfl, rfl, hp⟩
  | cons b bits ih =>
    intro s hp
    have arm : armState { s with lineIn := b } = { s with lineIn := b } := by rw [armState, hp]
    rw [slotDeadlines_cons, arm]
    exact ih (s := { s with lineIn := b }) hp

/-! ### The command byte -/

/-- `ShiftIn` on `current_byte` alone (R13). -/
abbrev shiftedByte (c : Byte) (b : Bool) : Byte := BitVec.ofBool b ++ c.extractLsb' 1 7

/-- A bit of the command byte that is not its last (R140). -/
theorem processState_commandBit {s : State} (hp : s.pstate = .write) (hm : s.romMatched = false) (hc : s.romCommand = 0#8)
    (hk : s.bitCount ≠ 7#3) : processState s = nextBit (shiftIn s.lineIn s) := by
  rw [processState_command hm hc, receiveState, if_neg (not_not_intro hp), if_neg hk, handedBit_write hp]

/-- The slots that fill the command byte up assemble what their bits make of it, and the last of them runs it (R140, R141). -/
theorem slotDeadlines_command (last : Bool) (bits : List Bool) : ∀ {s : State}, s.pstate = .write → s.romMatched = false →
    s.romCommand = 0#8 → s.bitCount.toNat + bits.length = 7 →
    slotDeadlines (bits ++ [last]) s =
      exec (decodeByte ((bits ++ [last]).foldl shiftedByte s.currentByte)) { s with
        currentByte := (bits ++ [last]).foldl shiftedByte s.currentByte, bitCount := 7#3, lineIn := last, driveLow := false } := by
  induction bits with
  | nil =>
    intro s hp hm hc hk
    have hk : s.bitCount = 7#3 := BitVec.eq_of_toNat_eq hk
    rw [List.nil_append, slotDeadlines_slot (.inl hp), processState_eighth (s := sampled last s) hp hm hc hk, exec_eq, ← hk]
    rfl
  | cons b bits ih =>
    intro s hp hm hc hk
    rw [List.length_cons] at hk
    have more : s.bitCount ≠ 7#3 := by bv_omega
    have count : (s.bitCount + 1#3).toNat + bits.length = 7 := by bv_omega
    rw [List.cons_append, slotDeadlines_slot (.inl hp), processState_commandBit (s := sampled b s) hp hm hc more]
    exact ih (s := nextBit (shiftIn b (sampled b s))) hp hm hc count

/-! ### The identity, bit by bit -/

theorem length_idWireBits (ident : Identity) : (idWireBits ident).length = 64 := by simp [idWireBits]

theorem getElem_idWireBits {ident : Identity} {n : Nat} (h : n < (idWireBits ident).length) :
    (idWireBits ident)[n] = idWireBit ident n := by simp [idWireBits]

/-- What is still to come on the wire when the cursor is at wire bit `n`. -/
theorem drop_idWireBits {ident : Identity} {n : Nat} (h : n < 64) :
    (idWireBits ident).drop n = idWireBit ident n :: (idWireBits ident).drop (n + 1) := by
  have hn : n < (idWireBits ident).length := by rwa [length_idWireBits]
  rw [List.drop_eq_getElem_cons hn, getElem_idWireBits]

/-- Where the latch puts the cursor (R141). -/
theorem wirePosition_start {s : State} (hi : s.idIndex = 7#3) (hk : s.bitCount = 0#3) : wirePosition s = 0 := by
  simp [wirePosition, hi, hk]

/-- At the end of a command that selects. -/
abbrev Selected (t : State) : Prop := t.romMatched = true ∧ t.pstate = .write ∧ t.bitCount = 0#3 ∧ t.call = some .onSelected

/-- At the end of a command that does not. -/
abbrev Deselected (t : State) : Prop := t.romMatched = false ∧ t.pstate = .idle

/-- A command that compares the identity bit under the cursor with a bit of the master, in one round of slots each: a mismatch
deselects, a match at wire bit 63 selects, and a match before it leads to the next bit. -/
structure ComparesIdentity {α : Type} (slots : α → List Bool) (bit : α → Bool) (Awaits : State → Prop) : Prop where
  mismatch : ∀ {s a}, Awaits s → bit a ≠ idBit s → ∃ t, slotDeadlines (slots a) s = .next t ∧ Deselected t
  last : ∀ {s a}, Awaits s → bit a = idBit s → wirePosition s = 63 → ∃ t, slotDeadlines (slots a) s = .next t ∧ Selected t
  more : ∀ {s a}, Awaits s → bit a = idBit s → wirePosition s < 63 →
    ∃ t, slotDeadlines (slots a) s = .next t ∧ Awaits t ∧ t.id = s.id ∧ wirePosition t = wirePosition s + 1

/-- The rounds up to wire bit 63 select exactly if the master's bits are what is left of the identity. -/
theorem ComparesIdentity.selects_iff {α : Type} {slots : α → List Bool} {bit : α → Bool} {Awaits : State → Prop}
    (c : ComparesIdentity slots bit Awaits) (rounds : List α) : ∀ {s : State}, Awaits s → wirePosition s + rounds.length = 64 →
    ∃ t, slotDeadlines (rounds.flatMap slots) s = .next t ∧
      (rounds.map bit = (idWireBits s.id).drop (wirePosition s) → Selected t) ∧
      (rounds.map bit ≠ (idWireBits s.id).drop (wirePosition s) → Deselected t) := by
  induction rounds with
  | nil =>
    intro s _ hn
    exact absurd hn (Nat.ne_of_lt (wirePosition_lt s))
  | cons a rounds ih =>
    intro s h hn
    rw [List.length_cons] at hn
    rw [List.flatMap_cons, List.map_cons, slotDeadlines_append, drop_idWireBits (wirePosition_lt s), ← idBit_eq_idWireBit]
    by_cases hb : bit a = idBit s
    · rw [hb]
      simp only [List.cons.injEq, true_and, ne_eq]
      by_cases hl : wirePosition s = 63
      · obtain ⟨t, run, selected⟩ := c.last h hb hl
        have none : rounds = [] := List.length_eq_zero_iff.1 (by omega)
        have noneLeft : (idWireBits s.id).drop (wirePosition s + 1) = [] :=
          List.drop_eq_nil_of_le (Nat.le_of_eq (by rw [length_idWireBits, hl]))
        exact ⟨t, by rw [run, none]; rfl, fun _ => selected, fun hne => absurd (by rw [none, noneLeft]; rfl) hne⟩
      · obtain ⟨u, run, awaits, id, position⟩ := c.more h hb (by omega)
        rw [run, andThen_next, ← id, ← position]
        exact ih awaits (by omega)
    · obtain ⟨u, run, matched, idle⟩ := c.mismatch h hb
      obtain ⟨t, rest, kept, idle⟩ := slotDeadlines_idle (rounds.flatMap slots) idle
      exact ⟨t, by rw [run, andThen_next, rest], fun he => absurd (List.cons.inj he).1 hb, fun _ => ⟨kept.trans matched, idle⟩⟩

/-! ### Match ROM -/

/-- Match ROM awaits an operand bit (R150). -/
structure AwaitsOperand (s : State) : Prop where
  pstate : s.pstate = .write
  unmatched : s.romMatched = false
  command : s.romCommand = 0x55#8

section
variable {s : State} (h : AwaitsOperand s)
include h

theorem AwaitsOperand.onSlot (b : Bool) : AwaitsOperand (sampled b s) := ⟨h.pstate, h.unmatched, h.command⟩

theorem AwaitsOperand.onAdvance : AwaitsOperand (advance s) :=
  ⟨by simpa using h.pstate, by simpa using h.unmatched, by simpa using h.command⟩

theorem AwaitsOperand.slotDeadlines_operand (b : Bool) : slotDeadlines [b] s = .next (matchBit (sampled b s)) := by
  rw [slotDeadlines_slot (.inl h.pstate), processState_matchRom (s := sampled b s) h.unmatched h.command]
  rfl

theorem AwaitsOperand.slotDeadlines_mismatch {b : Bool} (hb : b ≠ idBit s) : slotDeadlines [b] s = .next (deselect (sampled b s)) := by
  rw [h.slotDeadlines_operand, matchBit_mismatch (s := sampled b s) h.pstate hb]

theorem AwaitsOperand.slotDeadlines_match {b : Bool} (hb : b = idBit s) :
    slotDeadlines [b] s =
      .next (if lastBit s then select (firstBit (sampled b s)) else advance (sampled b s)) := by
  rw [h.slotDeadlines_operand, matchBit_match (s := sampled b s) h.pstate hb]
  rfl

end

theorem comparesIdentity_matchRom : ComparesIdentity (fun b => [b]) id AwaitsOperand where
  mismatch h hb := ⟨_, h.slotDeadlines_mismatch hb, h.unmatched, rfl⟩
  last {s b} h hb hl := by
    refine ⟨_, h.slotDeadlines_match hb, ?_⟩
    rw [if_pos ((lastBit_iff_wirePosition s).2 hl)]
    exact ⟨rfl, h.pstate, rfl, rfl⟩
  more {s b} h hb hl := by
    have more := not_lastBit_of_lt hl
    refine ⟨_, h.slotDeadlines_match hb, ?_⟩
    rw [more]
    exact ⟨(h.onSlot b).onAdvance, advance_id _, wirePosition_advance (s := sampled b s) more⟩

/-- Matching bits from the start of the operand bring the cursor to the wire bit after them (R44, R150). -/
theorem AwaitsOperand.after_matching_bits {s : State} (h : AwaitsOperand s) (start : wirePosition s = 0) : ∀ n < 64,
    ∃ t, slotDeadlines ((idWireBits s.id).take n) s = .next t ∧ AwaitsOperand t ∧ t.id = s.id ∧ wirePosition t = n := by
  intro n
  induction n with
  | zero => exact fun _ => ⟨s, rfl, h, rfl, start⟩
  | succ n ih =>
    intro hn
    have inside : n < (idWireBits s.id).length := by rw [length_idWireBits]; omega
    obtain ⟨t, run, awaits, sameId, position⟩ := ih (by omega)
    have bit : idWireBit s.id n = idBit t := by rw [idBit_eq_idWireBit, sameId, position]
    obtain ⟨u, next, awaits', sameId', position'⟩ := comparesIdentity_matchRom.more awaits (a := idBit t) rfl (by omega)
    refine ⟨u, ?_, awaits', sameId'.trans sameId, by rw [position', position]⟩
    rw [List.take_succ_eq_append_getElem inside, getElem_idWireBits, bit, slotDeadlines_append, run, andThen_next, next]

/-! ### The searches -/

/-- A search, plain or alarm, sends a bit or its complement (R156). -/
structure Searching (s : State) : Prop where
  pstate : s.pstate = .read
  unmatched : s.romMatched = false
  command : s.romCommand ∈ searchCommands

/-- The other bit is sent next (R156). -/
def complemented (s : State) : State := { s with readVal := !s.readVal }

/-- The master's direction is awaited (R156). -/
def awaitingDirection (s : State) : State := { s with pstate := .write }

section
variable {s : State} (h : Searching s)
include h

theorem Searching.onSlot (l : Bool) : Searching (sampled l s) := ⟨h.pstate, h.unmatched, h.command⟩

theorem Searching.firstHalf (sent : s.readVal = idBit s) : processState s = complemented s := by
  rw [processState_search h.unmatched h.command, searchBit_read h.pstate, if_pos sent, ← h.pstate]
  rfl

theorem Searching.secondHalf (sent : s.readVal ≠ idBit s) : processState s = awaitingDirection (complemented s) := by
  rw [processState_search h.unmatched h.command, searchBit_read h.pstate, if_neg sent]
  rfl

/-- The first half-slot complements the identity bit, and the second its complement, after which the direction is awaited (R157). -/
theorem Searching.slotDeadlines_halves (sent : s.readVal = idBit s) (l₁ l₂ : Bool) (bits : List Bool) :
    slotDeadlines (l₁ :: l₂ :: bits) s = slotDeadlines bits (sampled l₂ (awaitingDirection s)) := by
  have second : Searching (complemented (sampled l₁ s)) := ⟨h.pstate, h.unmatched, h.command⟩
  have other : (!s.readVal) ≠ idBit s := by simp [sent]
  rw [slotDeadlines_slot (.inr h.pstate), (h.onSlot l₁).firstHalf sent, slotDeadlines_slot (.inr second.pstate),
    (second.onSlot l₂).secondHalf other]
  simp only [complemented, awaitingDirection, sampled, Bool.not_not]

/-- The bits of the two half-slots (R157). -/
theorem Searching.sentBits_halves (sent : s.readVal = idBit s) : sentBits 2 s = [idBit s, !idBit s] := by
  have complement : armState s = complemented (releaseLine s) :=
    (armState_slot (.inr h.pstate)).trans ((h.onSlot s.lineIn).firstHalf sent)
  rw [sentBits_succ, complement, sentBits_succ, ← sent]
  rfl

end

/-- A search is at the start of a triple (R155, R157). -/
structure StartsTriple (s : State) : Prop extends Searching s where
  sent : s.readVal = idBit s

section
variable {s : State} (h : StartsTriple s) (l₁ l₂ : Bool) {d : Bool}
include h

/-- The third slot of a triple takes the master's direction (R155). -/
theorem StartsTriple.slotDeadlines_direction :
    slotDeadlines [l₁, l₂, d] s = .next (searchDirection (sampled d (awaitingDirection s))) := by
  rw [h.slotDeadlines_halves h.sent, slotDeadlines_slot (s := sampled l₂ (awaitingDirection s)) (.inl rfl)]
  exact congrArg Host.Outcome.next
    (processState_search (s := sampled d (awaitingDirection s)) h.unmatched h.command)

theorem StartsTriple.slotDeadlines_mismatch (hd : d ≠ idBit s) :
    slotDeadlines [l₁, l₂, d] s = .next (deselect (sampled d (awaitingDirection s))) := by
  rw [← h.sent] at hd
  rw [h.slotDeadlines_direction, searchDirection_mismatch (s := sampled d (awaitingDirection s)) rfl hd]

theorem StartsTriple.slotDeadlines_match (hd : d = idBit s) :
    slotDeadlines [l₁, l₂, d] s = .next (if lastBit s then select (firstBit (sampled d (awaitingDirection s)))
      else loadRead (advance (sampled d (awaitingDirection s)))) := by
  rw [← h.sent] at hd
  rw [h.slotDeadlines_direction, searchDirection_match (s := sampled d (awaitingDirection s)) rfl hd]
  rfl

end

theorem comparesIdentity_search :
    ComparesIdentity (fun x : Bool × Bool × Bool => [x.1, x.2.1, x.2.2]) (fun x => x.2.2) StartsTriple where
  mismatch h hd := ⟨_, h.slotDeadlines_mismatch _ _ hd, h.unmatched, rfl⟩
  last {s x} h hd hl := by
    refine ⟨_, h.slotDeadlines_match _ _ hd, ?_⟩
    rw [if_pos ((lastBit_iff_wirePosition s).2 hl)]
    exact ⟨rfl, rfl, rfl, rfl⟩
  more {s x} h hd hl := by
    have more := not_lastBit_of_lt hl
    refine ⟨_, h.slotDeadlines_match _ _ hd, ?_⟩
    rw [more]
    refine ⟨⟨⟨rfl, ?_, ?_⟩, rfl⟩, advance_id _, wirePosition_advance (s := sampled x.2.2 (awaitingDirection s)) more⟩
    · exact (advance_romMatched _).trans h.unmatched
    · exact (advance_romCommand (sampled x.2.2 (awaitingDirection s))).symm ▸ h.command

/-! ### Read ROM -/

/-- Read ROM sends the identity bit under the cursor (R165). -/
structure SendsIdentity (s : State) : Prop where
  pstate : s.pstate = .read
  unmatched : s.romMatched = false
  command : s.romCommand = 0x33#8
  sent : s.readVal = idBit s

section
variable {s : State} (h : SendsIdentity s)
include h

theorem SendsIdentity.onSlot (l : Bool) : SendsIdentity (sampled l s) := ⟨h.pstate, h.unmatched, h.command, h.sent⟩

theorem SendsIdentity.processState_eq : processState s = if lastBit s then { select (firstBit s) with pstate := .write }
    else { advance s with readVal := idBit (advance s) } := by
  rw [processState_readRom h.unmatched h.command, readRomBit_read h.pstate]

theorem SendsIdentity.last (hl : wirePosition s = 63) : Selected (processState s) := by
  rw [h.processState_eq, if_pos ((lastBit_iff_wirePosition s).2 hl)]
  exact ⟨rfl, rfl, rfl, rfl⟩

theorem SendsIdentity.more (hl : wirePosition s < 63) :
    SendsIdentity (processState s) ∧ (processState s).id = s.id ∧ wirePosition (processState s) = wirePosition s + 1 := by
  have more := not_lastBit_of_lt hl
  rw [h.processState_eq, more]
  exact ⟨⟨by simpa using h.pstate, by simpa using h.unmatched, by simpa using h.command, rfl⟩, advance_id s,
    wirePosition_advance more⟩

end

/-- The slots up to wire bit 63 end in the selection, whatever the levels on the line (R165). -/
theorem slotDeadlines_readRom (levels : List Bool) : ∀ {s : State}, SendsIdentity s → wirePosition s + levels.length = 64 →
    ∃ t, slotDeadlines levels s = .next t ∧ Selected t := by
  induction levels with
  | nil =>
    intro s _ hn
    exact absurd hn (Nat.ne_of_lt (wirePosition_lt s))
  | cons l levels ih =>
    intro s h hn
    rw [List.length_cons] at hn
    rw [slotDeadlines_slot (.inr h.pstate)]
    by_cases hl : wirePosition s = 63
    · have none : levels = [] := List.length_eq_zero_iff.1 (by omega)
      exact ⟨_, by rw [none]; rfl, (h.onSlot l).last hl⟩
    · have before : wirePosition (sampled l s) < 63 := by show wirePosition s < 63; omega
      obtain ⟨sends, -, position⟩ := (h.onSlot l).more before
      exact ih sends (by rw [position]; show wirePosition s + 1 + levels.length = 64; omega)

/-- They send what is left of the identity (R165). -/
theorem sentBits_readRom (n : Nat) : ∀ {s : State}, SendsIdentity s → wirePosition s + n = 64 →
    sentBits n s = (idWireBits s.id).drop (wirePosition s) := by
  induction n with
  | zero =>
    intro s _ hn
    exact absurd hn (Nat.ne_of_lt (wirePosition_lt s))
  | succ n ih =>
    intro s h hn
    rw [sentBits_succ, drop_idWireBits (wirePosition_lt s), ← idBit_eq_idWireBit, h.sent, armState_slot (.inr h.pstate)]
    congr 1
    by_cases hl : wirePosition s = 63
    · have none : n = 0 := by omega
      rw [none, List.drop_eq_nil_of_le (Nat.le_of_eq (by rw [length_idWireBits, hl]))]
      rfl
    · have before : wirePosition (sampled s.lineIn s) < 63 := by show wirePosition s < 63; omega
      obtain ⟨sends, sameId, position⟩ := (h.onSlot s.lineIn).more before
      have rest := ih sends (by rw [position]; show wirePosition s + 1 + n = 64; omega)
      rwa [sameId, position] at rest

end Sys2Proof.Machine

open Sys2Proof Sys2Proof.Machine

/-- Settles O29: the eighth slot completes the byte, which the eight shifts have assembled in wire order. -/
theorem eightSlotsRunTheCommand : Obligations.EightSlotsRunTheCommand := by
  intro s b hp hm hc hk
  have wire : wireBits b = (wireBits b).take 7 ++ [b.getLsbD 7] := rfl
  have run := slotDeadlines_command (b.getLsbD 7) ((wireBits b).take 7) hp hm hc (by rw [hk]; rfl)
  rwa [← wire, foldl_wireBits] at run

/-- Settles O38: the two half-slots of the triple. -/
theorem searchTripleSendsBitAndComplement : Obligations.SearchTripleSendsBitAndComplement := by
  intro s l₁ l₂ hp hm hc sent
  have h : Searching s := ⟨hp, hm, hc⟩
  exact ⟨h.sentBits_halves sent, h.slotDeadlines_halves sent l₁ l₂ []⟩

/-- Settles O42: Match ROM compares the identity from wire bit 0 on, a slot for each bit. -/
theorem matchRomSelectsIffIdentityMatches : Obligations.MatchRomSelectsIffIdentityMatches := by
  intro s bits hlen hp hm hc hi hk
  have start := wirePosition_start hi hk
  have run := comparesIdentity_matchRom.selects_iff bits ⟨hp, hm, hc⟩ (by rw [start, hlen])
  rwa [start, List.drop_zero, List.flatMap_singleton', List.map_id] at run

/-- Settles O43: the matching bits bring the cursor to wire bit `n`, and deselection leaves it there. -/
theorem matchRomStopsAtTheFirstMismatch : Obligations.MatchRomStopsAtTheFirstMismatch := by
  intro s n hn hp hm hc hi hk
  have h : AwaitsOperand s := ⟨hp, hm, hc⟩
  obtain ⟨t, run, awaits, sameId, position⟩ := h.after_matching_bits (wirePosition_start hi hk) n hn
  have mismatch : (!idWireBit s.id n) ≠ idBit t := by simp [idBit_eq_idWireBit, sameId, position]
  rw [slotDeadlines_append, run, andThen_next]
  exact ⟨_, awaits.slotDeadlines_mismatch mismatch, rfl, awaits.unmatched, position⟩

/-- Settles O44: a search compares the identity from wire bit 0 on, a triple for each bit. -/
theorem searchSelectsIffDirectionsMatch : Obligations.SearchSelectsIffDirectionsMatch := by
  intro s triples hlen hp hm hc hi hk sent
  have start := wirePosition_start hi hk
  have run := comparesIdentity_search.selects_iff triples ⟨⟨hp, hm, hc⟩, sent⟩ (by rw [start, hlen])
  rwa [start, List.drop_zero] at run

/-- Settles O45: Read ROM sends the identity from wire bit 0 on. -/
theorem readRomSendsTheIdentity : Obligations.ReadRomSendsTheIdentity := by
  intro s levels hlen hp hm hc hi hk sent
  have start := wirePosition_start hi hk
  have h : SendsIdentity s := ⟨hp, hm, hc, sent⟩
  have bits := sentBits_readRom 64 h (by rw [start])
  rw [start, List.drop_zero] at bits
  exact ⟨bits, slotDeadlines_readRom levels h (by rw [start, hlen])⟩
end

section
/-! PROOFS. The byte bridge of a selected engine (R180 to R183, R190 to R194): the byte a row of slots delivers or sends, how long a
transmission goes on, and a tick coupled to an application. -/

namespace Sys2Proof.Machine

/-- A slot of a selected engine hands its bit to the bridge (R127). -/
theorem slotDeadlines_selected {s : State} (hp : InSlot s.pstate) (hm : s.romMatched = true) (b : Bool) (bs : List Bool) :
    slotDeadlines (b :: bs) s = slotDeadlines bs (bridge (sampled b s)) := by
  rw [slotDeadlines_slot hp, processState_selected (s := sampled b s) hm]

/-! ### Reception -/

/-- What the last bit of a received byte leaves (R180): the application has been given the byte, and turns the engine to `Read` or
not. -/
def byteReceived (b : Byte) (s : State) : State :=
  { s with
    currentByte := b, bitCount := 0#3, call := some (.onByteReceived b), txByte := s.reply.staged.getD s.txByte,
    pstate := if s.reply.wantTransmit then .read else .write,
    readVal := if s.reply.wantTransmit then (s.reply.staged.getD s.txByte).getLsbD 0 else s.readVal }

theorem bridge_receives_bit {s : State} (hp : s.pstate = .write) (hk : s.bitCount ≠ 7#3) :
    bridge s = nextBit (shiftIn s.lineIn s) := by
  rw [bridge, if_pos hp, bridgeReceive, if_neg hk, handedBit_write hp]

theorem bridge_receives_byte {s : State} (hp : s.pstate = .write) (hk : s.bitCount = 7#3) :
    bridge s = byteReceived (shiftedByte s.currentByte s.lineIn) s := by
  rw [bridge, if_pos hp]
  rcases bridgeReceive_cases s with ⟨more, _⟩ | ⟨_, u, rfl, ⟨want, e⟩ | ⟨want, e⟩⟩
  · exact absurd hk more
  · rw [e, handedBit_write hp, byteReceived, want]; rfl
  · rw [e, handedBit_write hp, byteReceived, want, ← hp]; rfl

/-- The slots that fill a byte up deliver what their bits make of it (R180). -/
theorem slotDeadlines_receive (last : Bool) (bits : List Bool) : ∀ {s : State}, s.pstate = .write → s.romMatched = true →
    s.bitCount.toNat + bits.length = 7 →
    slotDeadlines (bits ++ [last]) s = .next (byteReceived ((bits ++ [last]).foldl shiftedByte s.currentByte) (sampled last s)) := by
  induction bits with
  | nil =>
    intro s hp hm hk
    have eighth : s.bitCount = 7#3 := BitVec.eq_of_toNat_eq hk
    rw [List.nil_append, slotDeadlines_selected (.inl hp) hm, bridge_receives_byte (s := sampled last s) hp eighth]
    rfl
  | cons b bits ih =>
    intro s hp hm hk
    rw [List.length_cons] at hk
    have more : s.bitCount ≠ 7#3 := by bv_omega
    have count : (s.bitCount + 1#3).toNat + bits.length = 7 := by bv_omega
    rw [List.cons_append, slotDeadlines_selected (.inl hp) hm, bridge_receives_bit (s := sampled b s) hp more]
    exact ih (s := nextBit (shiftIn b (sampled b s))) hp hm count

/-! ### Transmission -/

/-- A selected engine in `Read` sends bytes (R181). -/
abbrev Transmitting (s : State) : Prop := s.pstate = .read ∧ s.romMatched = true

/-- What the last bit of a sent byte leaves (R181, R183): the application has been called, and the next bit is bit 0 of `tx_byte`. -/
def byteSent (s : State) : State :=
  { s with
    bitCount := 0#3, call := some .onByteSent, txByte := s.reply.staged.getD s.txByte,
    readVal := (s.reply.staged.getD s.txByte).getLsbD 0 }

theorem bridge_sends_bit {s : State} (hp : s.pstate = .read) (hk : s.bitCount ≠ 7#3) :
    bridge s = { nextBit s with readVal := byteBit s.txByte (s.bitCount + 1#3) } := by
  rw [bridge, if_neg (by simp [hp]), bridgeTransmit_eq_ite, if_neg hk]

theorem bridge_sends_byte {s : State} (hp : s.pstate = .read) (hk : s.bitCount = 7#3) : bridge s = byteSent s := by
  rw [bridge, if_neg (by simp [hp]), bridgeTransmit_eq_ite, if_pos hk]
  rfl

/-- The slots up to bit 7 send the byte to its end, whatever the levels on the line; only the last level is left in the state. -/
theorem slotDeadlines_transmit (levels : List Bool) : ∀ {s : State}, Transmitting s → s.bitCount.toNat + levels.length = 8 →
    ∃ level, slotDeadlines levels s = .next (byteSent (sampled level s)) := by
  induction levels with
  | nil =>
    intro s _ hk
    exact absurd hk (Nat.ne_of_lt s.bitCount.isLt)
  | cons level levels ih =>
    rintro s ⟨hp, hm⟩ hk
    rw [List.length_cons] at hk
    rw [slotDeadlines_selected (.inr hp) hm]
    by_cases eighth : s.bitCount = 7#3
    · have none : levels = [] := List.length_eq_zero_iff.1 (by bv_omega)
      rw [none, bridge_sends_byte (s := sampled level s) hp eighth]
      exact ⟨level, rfl⟩
    · have count : (s.bitCount + 1#3).toNat + levels.length = 8 := by bv_omega
      rw [bridge_sends_bit (s := sampled level s) hp eighth]
      exact ih (s := { nextBit (sampled level s) with readVal := byteBit s.txByte (s.bitCount + 1#3) }) ⟨hp, hm⟩ count

/-- What is left of a byte on the wire from bit `k` on. -/
theorem drop_wireBits (v : Byte) {k : Nat} (h : k < 8) : (wireBits v).drop k = v.getLsbD k :: (wireBits v).drop (k + 1) := by
  have hk : k < (wireBits v).length := by simpa [wireBits] using h
  rw [List.drop_eq_getElem_cons hk]
  simp [wireBits]

/-- The slots up to bit 7 send what is left of `tx_byte` in wire order (R43, R181). -/
theorem sentBits_transmit (n : Nat) : ∀ {s : State}, Transmitting s → s.readVal = byteBit s.txByte s.bitCount →
    s.bitCount.toNat + n = 8 → sentBits n s = (wireBits s.txByte).drop s.bitCount.toNat := by
  induction n with
  | zero =>
    intro s _ _ hk
    exact absurd hk (Nat.ne_of_lt s.bitCount.isLt)
  | succ n ih =>
    rintro s ⟨hp, hm⟩ sent hk
    rw [sentBits_succ, drop_wireBits _ s.bitCount.isLt, sent, byteBit, armState_slot (.inr hp),
      processState_selected (s := releaseLine s) hm]
    congr 1
    by_cases eighth : s.bitCount = 7#3
    · have none : n = 0 := by bv_omega
      rw [none, eighth]
      rfl
    · have count : (s.bitCount + 1#3).toNat = s.bitCount.toNat + 1 := by bv_omega
      rw [bridge_sends_bit (s := releaseLine s) hp eighth, ← count]
      exact ih (s := { nextBit (releaseLine s) with readVal := byteBit s.txByte (s.bitCount + 1#3) }) ⟨hp, hm⟩ rfl
        (by show (s.bitCount + 1#3).toNat + n = 8; omega)

/-! ### The end of a transmission -/

/-- In `Idle` with nothing left of the transaction, as the watchdog leaves the engine (R86). -/
abbrev Ended (s : State) : Prop := s.pstate = .idle ∧ ContextClear s

theorem transmitting_bridge {s : State} (h : Transmitting s) : Transmitting (bridge s) := by
  obtain ⟨hp, hm⟩ := h
  rw [bridge, if_neg (by simp [hp])]
  obtain ⟨u, ⟨_, rfl⟩ | ⟨_, rfl⟩, e⟩ := bridgeTransmit_cases s <;> rw [e] <;> exact ⟨hp, hm⟩

/-- No deadline ends a transmission (R182). -/
theorem transmitting_deadlineState {s : State} (h : Transmitting s) : Transmitting (deadlineState s) := by
  obtain ⟨hp, hm⟩ := h
  rcases deadlineState_cases s with e | e | ⟨_, e⟩ | ⟨hw, _⟩ | ⟨hw, _⟩
  · rw [e]; exact ⟨hp, hm⟩
  · rw [e]; exact ⟨hp, hm⟩
  · rw [e, processState_selected (s := releaseLine (disarm s)) hm]
    exact transmitting_bridge (s := releaseLine (disarm s)) ⟨hp, hm⟩
  · simp [hp] at hw
  · simp [hp] at hw

/-- In the timer part only the watchdog ends a transmission (R86). -/
theorem transmitting_timerState {s : State} (h : Transmitting s) :
    Transmitting (timerState s) ∨ (s.cnt = 500 ∧ Ended (timerState s)) := by
  unfold timerState
  rcases watchdogPart_cases s.cnt (deadlineState s) with ⟨hc, e⟩ | ⟨_, e⟩ <;> rw [e]
  · exact .inr ⟨hc, rfl, rfl, rfl, rfl, rfl, rfl, rfl, rfl⟩
  · exact .inl (transmitting_deadlineState h)

section
variable {s : State} (hr : s.riseEn = false)
include hr

theorem edgePart_pstate_of_not_enabled : (edgePart s).pstate = s.pstate :=
  (edgePart_pstate s).resolve_right fun ⟨enabled, _⟩ => by simp [hr] at enabled

/-- No edge ends a transmission (R103, R110). -/
theorem transmitting_edgePart (h : Transmitting s) : Transmitting (edgePart s) := by
  obtain ⟨hp, hm⟩ := h
  refine ⟨(edgePart_pstate_of_not_enabled hr).trans hp, ?_⟩
  rcases edgePart_context s with ⟨kept, _⟩ | ⟨hi, _⟩
  · exact kept.trans hm
  · simp [hp] at hi

/-- While rising edges are not enabled, no edge after the watchdog begins a transaction (R108, R110). -/
theorem ended_edgePart (h : Ended s) : Ended (edgePart s) := by
  obtain ⟨hp, clear⟩ := h
  refine ⟨(edgePart_pstate_of_not_enabled hr).trans hp, ?_⟩
  rcases edgePart_context s with ⟨_, kept⟩ | ⟨_, cleared⟩
  · exact kept clear
  · exact cleared

/-- The two parts of a tick, in either order: at most the watchdog ends the transmission (R182, R212). -/
theorem transmitting_handlersState (h : Transmitting s) :
    Transmitting (handlersState s) ∨ (s.cnt = 500 ∧ Ended (handlersState s)) := by
  have disabled : (timerState s).riseEn = false := (sameOutside_timer s).riseEn.trans hr
  rcases handlersState_cases s with e | ⟨_, e⟩ | ⟨unarmed, e⟩ <;> rw [e]
  · exact (transmitting_timerState h).imp (transmitting_edgePart disabled) fun ⟨hc, ended⟩ => ⟨hc, ended_edgePart disabled ended⟩
  · exact .inl (transmitting_edgePart hr h)
  · obtain ⟨count, -⟩ := edgePart_timer_of_not_rearms unarmed
    rw [← count]
    exact transmitting_timerState (transmitting_edgePart hr h)

end

/-! ### A coupled tick -/

/-- Which call a tick makes does not depend on the application's answer in it (R190; log 7). -/
theorem tickState_call_reply (release alarm : Bool) (r r' : AppReply) (s : State) :
    (tickState (samplePorts { release := release, alarm := alarm, reply := r' } s)).call =
      (tickState (samplePorts { release := release, alarm := alarm, reply := r } s)).call :=
  (answerShows_tickState r' (samplePorts { release := release, alarm := alarm, reply := r } s) rfl).call

end Sys2Proof.Machine

open Sys2Proof Sys2Proof.Machine

/-- Settles O46: the eighth slot delivers the byte, which the eight shifts have assembled in wire order. -/
theorem bridgeDeliversAReceivedByte : Obligations.BridgeDeliversAReceivedByte := by
  rintro s b tx hp hm hk rfl
  have wire : wireBits b = (wireBits b).take 7 ++ [b.getLsbD 7] := rfl
  have run := slotDeadlines_receive (b.getLsbD 7) ((wireBits b).take 7) hp hm (by rw [hk]; rfl)
  rwa [← wire, foldl_wireBits] at run

/-- Settles O47: from bit 0 on, each slot sends a bit of `tx_byte`, and the eighth ends the byte. -/
theorem bridgeSendsTheStagedByte : Obligations.BridgeSendsTheStagedByte := by
  rintro s levels tx hlen hp hm hk sent rfl
  have start : s.bitCount.toNat = 0 := by rw [hk]; rfl
  have bits := sentBits_transmit 8 ⟨hp, hm⟩ (by rw [sent, hk]; rfl) (by rw [start])
  rw [start, List.drop_zero] at bits
  obtain ⟨level, run⟩ := slotDeadlines_transmit levels ⟨hp, hm⟩ (by rw [start, hlen])
  exact ⟨bits, _, run, rfl⟩

/-- Settles O48: rising edges are not measured outside `Idle`, so only the watchdog is left to end the transmission. -/
theorem transmissionEndsOnlyByWatchdog : Obligations.TransmissionEndsOnlyByWatchdog := by
  intro s t i rest h he hp hm ht
  obtain rfl := Host.Outcome.next.inj ((step_started he).symm.trans ht)
  have disabled : s.riseEn = false := by simpa [hp] using h.rise_idle
  exact transmitting_handlersState (s := started i s) disabled ⟨hp, hm⟩

/-- Settles O51: the silent tick finds the call, and the tick with the application's answer makes the same one. -/
theorem coupledTickAnswersItsOwnCall : Obligations.CoupledTickAnswersItsOwnCall := by
  intro σ a release alarm s x
  simp only [App.tick, tickWith_eq]
  cases hc : (tickState (samplePorts { release := release, alarm := alarm, reply := AppReply.silent } s)).call with
  | none => exact .inl ⟨_, hc, rfl, rfl⟩
  | some c =>
    have sameCall := (tickState_call_reply release alarm AppReply.silent (a.answer x c).2 s).trans hc
    exact .inr ⟨c, _, sameCall, rfl, rfl⟩
end

section
/-! PROOFS. No event stops an engine (R200), and the line that several engines share (R220 to R222). -/

namespace Sys2Proof.Machine

/-- Neither part of a tick writes the level sampled at its start (R30). -/
theorem handlersState_lineIn (s : State) : (handlersState s).lineIn = s.lineIn := by
  have timer : ∀ u, (timerState u).lineIn = u.lineIn := fun u => (sameOutside_timer u).lineIn
  have edge : ∀ u, (edgePart u).lineIn = u.lineIn := fun u => by
    obtain ⟨-, -, hline, -⟩ := edgePart_frame u
    exact hline
  rcases handlersState_cases s with e | ⟨_, e⟩ | ⟨_, e⟩ <;> simp [e, timer, edge]

theorem tickState_lineIn (s : State) : (tickState s).lineIn = s.lineIn := handlersState_lineIn (countUp s)

theorem busLevel_iff (release : Bool) (engines : List State) :
    busLevel release engines = true ↔ release = true ∧ ∀ e ∈ engines, e.driveLow = false := by simp [busLevel]

/-- An engine on the line adds nothing to the level that all engines make (R222). -/
theorem lineLevel_busLevel {release : Bool} {engines : List State} {e : State} (h : e ∈ engines) :
    lineLevel (busLevel release engines) e = busLevel release engines := by
  cases level : busLevel release engines with
  | false => rfl
  | true =>
    obtain ⟨-, undriven⟩ := (busLevel_iff release engines).1 level
    rw [lineLevel, undriven e h]
    rfl

end Sys2Proof.Machine

open Sys2Proof Sys2Proof.Machine

/-- Settles O10: a tick and a power-on reset are plain functions of the state. -/
theorem everyStepHasANextState : Obligations.EveryStepHasANextState := step_next

/-- Settles O60: the tick keeps the level it samples, which the engine's own output has already entered. -/
theorem enginesShareTheWiredAndLine : Obligations.EnginesShareTheWiredAndLine := by
  intro release engines
  refine ⟨(busLevel_iff _ _).trans (by simp only [List.forall_mem_map]), fun r hr => ?_⟩
  obtain ⟨e, he, rfl⟩ := List.mem_map.1 hr
  refine ⟨_, tickWith_eq _ _, ?_⟩
  rw [tickState_lineIn]
  exact lineLevel_busLevel (List.mem_map_of_mem he)
end

section
/-! PROOFS. A falling edge in the tick of a deadline, in both orders (R212, R243). -/

namespace Sys2Proof.Machine

/-! ### No bit leads into presence -/

section
variable {s : State}

theorem not_presence_matchBit (h : ¬ InPresence s) : ¬ InPresence (matchBit s) := by
  rcases matchBit_cases s with ⟨_, e⟩ | ⟨_, _, ⟨_, e⟩ | ⟨_, e⟩⟩ <;> rw [e]
  · simp [InPresence]
  · exact h
  · simpa [InPresence] using h

theorem not_presence_searchBit (h : ¬ InPresence s) : ¬ InPresence (searchBit s) := by
  rcases searchBit_cases s with ⟨_, ⟨_, e⟩ | ⟨_, _, e⟩ | ⟨_, _, e⟩⟩ | ⟨_, ⟨_, e⟩ | ⟨_, e⟩⟩ <;> rw [e]
  · simp [InPresence]
  · exact h
  · simp [InPresence]
  · simp [InPresence]
  · exact h

theorem not_presence_readRomBit : ¬ InPresence (readRomBit s) := by
  rcases readRomBit_cases s with ⟨_, e⟩ | ⟨hp, ⟨_, e⟩ | ⟨_, e⟩⟩ <;> rw [e]
  · simp [InPresence]
  · simp [InPresence]
  · simp [InPresence, hp]

theorem not_presence_execState (i : Instr) (h : ¬ InPresence s) : ¬ InPresence (execState i s) := by
  have idle : ¬ InPresence (deselect s) := by simp [InPresence]
  by_cases hc : s.romCommand = 0#8
  · rw [execState_first i hc]
    cases i with
    | matchRom | skipRom => exact h
    | searchRom | readRom | unknown => simp [firstStep, InPresence]
    | alarmSearch => cases ha : s.alarmCondition <;> simp [firstStep, InPresence, ha]
  · rw [execState_later i hc]
    cases i with
    | matchRom => exact not_presence_matchBit h
    | searchRom | alarmSearch => exact not_presence_searchBit h
    | readRom => exact not_presence_readRomBit
    | skipRom | unknown => exact idle

theorem not_presence_receiveState (h : ¬ InPresence s) : ¬ InPresence (receiveState s) := by
  unfold receiveState
  split
  · simp [InPresence]
  · split
    · exact not_presence_execState _ (s := shiftIn _ s) h
    · exact h

theorem not_presence_bridge (h : ¬ InPresence s) : ¬ InPresence (bridge s) := by
  unfold bridge
  split
  · rcases bridgeReceive_cases s with ⟨_, e⟩ | ⟨_, u, rfl, ⟨_, e⟩ | ⟨_, e⟩⟩ <;> rw [e]
    · exact h
    · simp [InPresence]
    · exact h
  · obtain ⟨u, ⟨_, rfl⟩ | ⟨_, rfl⟩, e⟩ := bridgeTransmit_cases s <;> rw [e] <;> exact h

/-- The dispatcher leads from the slots to the slots or to `Idle` (R129). -/
theorem not_presence_processState (h : ¬ InPresence s) : ¬ InPresence (processState s) := by
  unfold processState
  split
  · exact not_presence_bridge h
  · split
    · exact not_presence_receiveState h
    · exact not_presence_execState _ h

/-- No deadline leads into the wait for the presence pulse: only an accepted reset pulse does (R129). -/
theorem armState_ne_presenceWait (s : State) : (armState s).pstate ≠ .presenceWait := by
  cases hp : s.pstate with
  | write | read =>
    rw [armState_slot (by simp [hp])]
    exact fun h => not_presence_processState (s := releaseLine s) (by simp [InPresence, hp]) (.inl h)
  | idle | presenceWait | presencePulse => simp [armState, hp]

end

/-! ### A falling edge at the end of a tick -/

theorem followLine_low {u : State} (low : u.lineIn = false) : followLine u = { u with linePrev := false } := by rw [followLine, low]

/-- What a tick leaves whose last part is a falling edge, by the state the edge is handled in (R101 to R104). -/
theorem followLine_fallingEdge {u : State} (low : u.lineIn = false) :
    (u.pstate = .write → followLine (fallingEdge u) = { u with
      cnt := 0, cmp := 40, dlArmed := true, dlMatched := false, linePrev := false }) ∧
    (u.pstate = .read → followLine (fallingEdge u) = { u with
      driveLow := !u.readVal, cnt := 0, cmp := 50, dlArmed := true, dlMatched := false, linePrev := false }) ∧
    (u.pstate = .idle → followLine (fallingEdge u) = { u with
      riseEn := true, cnt := 0, cmp := u.params.resetTimeoutCmp, dlArmed := true, dlMatched := false, linePrev := false }) ∧
    (InPresence u → followLine (fallingEdge u) = { u with linePrev := false }) := by
  refine ⟨fun hp => ?_, fun hp => ?_, fun hp => ?_, fun hp => ?_⟩
  · simp [fallingEdge_outside, InPresence, hp, followLine, low]
  · simp [fallingEdge_outside, InPresence, hp, followLine, low]
  · simp [fallingEdge_outside, InPresence, hp, followLine, low]
  · rcases hp with hp | hp <;> simp [fallingEdge, hp, followLine, low]

end Sys2Proof.Machine

open Sys2Proof Sys2Proof.Machine

/-- Settles O25: with the timer first the edge falls in what the deadline's arm leaves; with the edge first it is the whole tick outside
presence, where it re-arms the timer, and nothing in presence. -/
theorem slotStartInTheSampleTick : Obligations.SlotStartInTheSampleTick := by
  intro s s₀ i rest he hd hin hw hl h₀
  have start : disarm (started i s) = { s₀ with dlArmed := false, dlMatched := false, cnt := nextCount s } := by
    rw [started_eq he, h₀, hl.2]
    rfl
  have timer : timerState (started i s) = armState (disarm (started i s)) :=
    timerState_due ((started_due i s).2 hd) ((started_inWindow i s).2 hin) hw
  have outside := sameOutside_arm (disarm (started i s))
  refine ⟨armState (disarm (started i s)), start ▸ deadlineArm_eq _, fun order => ?_, fun order => ?_⟩
  · obtain ⟨write, read, idle, presence⟩ := followLine_fallingEdge (outside.lineIn.trans hl.2)
    rw [step_falling_timerFirst he order hl, timer]
    refine ⟨fun hp => congrArg _ (write hp), fun hp => congrArg _ (read hp), fun hp => ?_, fun hp => congrArg _ (presence (.inr hp)),
      armState_ne_presenceWait _⟩
    rw [idle hp, outside.params]
    rfl
  · obtain ⟨write, read, idle, -⟩ := followLine_fallingEdge (u := started i s) hl.2
    have edge (hp : ¬ InPresence s) := step_falling_edgeFirst he order hl hp
    refine ⟨fun hp => ?_, fun hp => ?_, fun hp => ?_, fun hp => ?_⟩
    · rw [edge (by simp [InPresence, hp]), write hp, started_eq he, h₀, hl.2]
    · rw [edge (by simp [InPresence, hp]), read hp, started_eq he, h₀, hl.2]
    · rw [edge (by simp [InPresence, hp]), idle hp, started_eq he, h₀, hl.2]
    · rw [step_presence_edgeFirst he order hp, timer, followLine_low (outside.lineIn.trans hl.2)]
end

section
/-! PROOFS. The order of the two parts of a tick (R7, R212): neither part reads it. -/

namespace Sys2Proof.Machine

/-- The same engine with another value of `SIMUL_ORDER` (R7). -/
def inOrder (o : SimulOrder) (s : State) : State := { s with params := { s.params with simulOrder := o } }

section
variable (o : SimulOrder) (s : State)

/-! ### The deadline part -/

theorem advance_inOrder : advance (inOrder o s) = inOrder o (advance s) := by
  simp only [advance, apply_ite (inOrder o)]; rfl

theorem matchBit_inOrder : matchBit (inOrder o s) = inOrder o (matchBit s) := by
  simp only [matchBit, apply_ite (inOrder o)]; rfl

theorem searchBit_inOrder : searchBit (inOrder o s) = inOrder o (searchBit s) := by
  simp only [searchBit, searchDirection, searchHalfSlot, apply_ite (inOrder o), advance_inOrder]; rfl

theorem readRomBit_inOrder : readRomBit (inOrder o s) = inOrder o (readRomBit s) := by
  simp only [readRomBit, apply_ite (inOrder o), advance_inOrder]; rfl

theorem execState_inOrder (i : Instr) : execState i (inOrder o s) = inOrder o (execState i s) := by
  cases i <;> simp only [execState, apply_ite (inOrder o), ← matchBit_inOrder, ← searchBit_inOrder, ← readRomBit_inOrder] <;> rfl

theorem receiveState_inOrder : receiveState (inOrder o s) = inOrder o (receiveState s) := by
  simp only [receiveState, apply_ite (inOrder o), ← execState_inOrder]; rfl

theorem bridge_inOrder : bridge (inOrder o s) = inOrder o (bridge s) := by
  simp only [bridge, bridgeReceive, bridgeTransmit_eq_ite, apply_ite (inOrder o)]; rfl

theorem processState_inOrder : processState (inOrder o s) = inOrder o (processState s) := by
  simp only [processState, apply_ite (inOrder o), ← execState_inOrder, ← receiveState_inOrder, ← bridge_inOrder]; rfl

theorem armState_inOrder : armState (inOrder o s) = inOrder o (armState s) := by
  cases hp : s.pstate with
  | write | read =>
    rw [armState_slot (s := s) (by simp [hp]), armState_slot (s := inOrder o s) (by simp [inOrder, hp])]
    exact processState_inOrder o (releaseLine s)
  | presencePulse | presenceWait | idle => simp only [armState, inOrder, hp] <;> rfl

theorem deadlineState_inOrder : deadlineState (inOrder o s) = inOrder o (deadlineState s) := by
  simp only [deadlineState, apply_ite (inOrder o), ← armState_inOrder]; rfl

/-! ### The two parts -/

theorem timerState_inOrder : timerState (inOrder o s) = inOrder o (timerState s) := by
  simp only [timerState, watchdogPart, deadlineState_inOrder, apply_ite (inOrder o)]; rfl

theorem fallingEdge_inOrder : fallingEdge (inOrder o s) = inOrder o (fallingEdge s) := by
  simp only [fallingEdge_eq_ite, apply_ite (inOrder o)]; rfl

theorem risingEdge_inOrder : risingEdge (inOrder o s) = inOrder o (risingEdge s) := by
  simp only [risingEdge, deadZone, apply_ite (inOrder o)]; rfl

theorem edgePart_inOrder : edgePart (inOrder o s) = inOrder o (edgePart s) := by
  simp only [edgePart, apply_ite (inOrder o), ← fallingEdge_inOrder, ← risingEdge_inOrder]; rfl

/-- A tick without a timer event or without an edge is one of its parts, and does not show the order (R212). -/
theorem handlersState_inOrder {s : State} (h : (deadlineDue s = false ∧ s.cnt ≠ 500) ∨ s.lineIn = s.linePrev) :
    handlersState (inOrder o s) = inOrder o (handlersState s) := by
  rcases h with ⟨hd, hw⟩ | hl
  · rw [handlersState_no_timer hd hw, handlersState_no_timer (s := inOrder o s) hd hw, edgePart_inOrder]
  · rw [handlersState_no_edge hl, handlersState_no_edge (s := inOrder o s) hl, timerState_inOrder]

end

end Sys2Proof.Machine

open Sys2Proof Sys2Proof.Machine

/-- Settles O26: such a tick is its edge part or its timer part alone, in either order. -/
theorem simulOrderMattersOnlyOnCoincidence : Obligations.SimulOrderMattersOnlyOnCoincidence := by
  intro s i h
  have alone : (deadlineDue (started i s) = false ∧ (started i s).cnt ≠ 500) ∨ (started i s).lineIn = (started i s).linePrev :=
    h.imp_left fun ⟨hd, hw⟩ => ⟨started_not_due i hd, hw⟩
  rw [tickWith_eq, tickWith_eq, andThen_next]
  exact congrArg (fun u => Host.Outcome.next (followLine u))
    (handlersState_inOrder .edgeFirst (s := countUp (samplePorts i (inOrder .timerFirst s))) alone)
end

section
/-! PROOFS. Power-on reset (R230, decision D11). -/

open Sys2Proof Sys2Proof.Machine

/-- Settles O7: the step is `powerOnReset` after the event is taken, and taking it leaves the later events. -/
theorem powerOnResetEvent : Obligations.PowerOnResetEvent := by
  intro s rest h
  have later : (takeEvent s).events = rest := by rw [takeEvent_events, h, List.tail_cons]
  rw [step_rst h, ← later]
  rfl

/-- Settles O6: a closed fact, each register and parameter compared with the value the reset state is built with. -/
theorem resetRegisterValues : Obligations.ResetRegisterValues := by
  unfold Obligations.ResetRegisterValues
  decide

end
